-- ==== Sys2Proof/Word.lean ====
section
/-!
DEFINITION. The words of the block: bytes and 16-bit words (00_scope.md R5), and the register form of one bit.
-/
namespace Sys2Proof

/-- A byte is 8 bits (R5). -/
abbrev Byte := BitVec 8

/-- A command word, and the Raw Sample, are 16 bits (10_state.md R34, 30_encoding.md R80). -/
abbrev Word := BitVec 16

/-- One bit as a field of a register. -/
def bit (b : Bool) : BitVec 1 := BitVec.ofBool b

@[simp] theorem bit_true : bit true = 1#1 := rfl
@[simp] theorem bit_false : bit false = 0#1 := rfl

end Sys2Proof
end

