-- ==== Sys2Proof/Syntax.lean ====
section
/-!
DEFINITION. The ten commands (30_encoding.md R82), one constructor per row of spec/opcode_table.json, and format C,
the one format of a command word (R80).
-/
namespace Sys2Proof

/-- The commands of 30_encoding.md R82, in the table's order. The only operand is the byte of `WRITE_BYTE` (R84). -/
inductive Instr where
  /-- `START`, opcode 1 (40_bus_primitives.md R101). -/
  | start
  /-- `RESTART`, opcode 2 (R102). -/
  | restart
  /-- `STOP`, opcode 3 (R103). -/
  | stop
  /-- `ACK`, opcode 4 (R104). -/
  | ack
  /-- `NACK`, opcode 5 (R105). -/
  | nack
  /-- `WAIT_IDLE`, opcode 6 (R106). -/
  | waitIdle
  /-- `WRITE_BYTE value`, opcode 7 (R107). -/
  | writeByte (value : Byte)
  /-- `READ_BYTE`, opcode 8 (R108). -/
  | readByte
  /-- `READ_TEMPERATURE`, opcode 9 (41_transaction_sequencer.md R141). -/
  | readTemperature
  /-- `READ_HUMIDITY`, opcode 10 (R142). -/
  | readHumidity
  deriving DecidableEq, Repr

/-- The three fields of a command word, format C (30_encoding.md R80). -/
structure Fields where
  /-- Bits [15:12]. -/
  opc : BitVec 4
  /-- Bits [11:8], reserved. -/
  rsv : BitVec 4
  /-- Bits [7:0]. -/
  data : Byte
  deriving DecidableEq, Repr

/-- The mnemonic of a command (30_encoding.md R82). -/
def Instr.mnemonic : Instr → String
  | .start => "START"
  | .restart => "RESTART"
  | .stop => "STOP"
  | .ack => "ACK"
  | .nack => "NACK"
  | .waitIdle => "WAIT_IDLE"
  | .writeByte _ => "WRITE_BYTE"
  | .readByte => "READ_BYTE"
  | .readTemperature => "READ_TEMPERATURE"
  | .readHumidity => "READ_HUMIDITY"

end Sys2Proof
end

