-- ==== Sys2Proof/WellFormed.lean ====
section
/-!
DEFINITION. Which command words are well formed (30_encoding.md R80, R83). Every term of `Instr` spells a legal word
(R84: "All 256 values are legal"), so the checks are on the fields of a word.
-/
namespace Sys2Proof

/-- The opcode is one of the ten of R82: not `0x0`, not `0xB` to `0xF`. -/
def Fields.opcOk (f : Fields) : Bool := 1 ≤ f.opc.toNat && f.opc.toNat ≤ 10

/-- The reserved field is `0b0000` (R80). -/
def Fields.rsvOk (f : Fields) : Bool := f.rsv == 0

/-- The data field is `0x00` for every opcode but `WRITE_BYTE`'s (R80). -/
def Fields.dataOk (f : Fields) : Bool := f.opc == 7 || f.data == 0

/-- A well-formed command word, the `Legal` of R83. -/
def Fields.wellFormed (f : Fields) : Bool := f.opcOk && f.rsvOk && f.dataOk

end Sys2Proof
end

