-- ==== Sys2Proof/Decode.lean ====
section
/-!
DEFINITION. The decoder of a command word (30_encoding.md R80 to R83), total, rejecting by name; the encoder, from the
same table; the assembler form of a command and the macro expansion of a transaction (R86, R87).
-/
namespace Sys2Proof

/-- Why a word spells no command (30_encoding.md R83). -/
inductive DecodeError where
  /-- `opc` is `0x0` or `0xB` to `0xF`. -/
  | reservedOpcode
  /-- `rsv != 0`. -/
  | reservedField
  /-- `opc != 0x7` and `data != 0x00`. -/
  | dataNotZero
  deriving DecidableEq, Repr

/-- A decoder's answer: a command, or the name of what is wrong. -/
inductive Decoded where
  | ok (i : Instr)
  | error (e : DecodeError)
  deriving DecidableEq, Repr

/-- The fields of a word: `opc[15:12] rsv[11:8] data[7:0]` (R80). -/
def fieldsOf (w : Word) : Fields where
  opc := w.extractLsb' 12 4
  rsv := w.extractLsb' 8 4
  data := w.extractLsb' 0 8

/-- The word with given fields (R80). -/
def Fields.word (f : Fields) : Word := f.opc ++ f.rsv ++ f.data

/-- `Legal(w)` of R83. -/
def legal (w : Word) : Bool := (fieldsOf w).wellFormed

/-- The command of an opcode with a data byte (R82). The data byte is an operand for `WRITE_BYTE` only. -/
def instrOfOpc (opc : BitVec 4) (data : Byte) : Option Instr :=
  match opc.toNat with
  | 1 => some .start
  | 2 => some .restart
  | 3 => some .stop
  | 4 => some .ack
  | 5 => some .nack
  | 6 => some .waitIdle
  | 7 => some (.writeByte data)
  | 8 => some .readByte
  | 9 => some .readTemperature
  | 10 => some .readHumidity
  | _ => none

/-- Decoding the fields of a word: the opcode first, then the reserved field, then the data field (R83). -/
def decodeFields (f : Fields) : Decoded :=
  match instrOfOpc f.opc f.data with
  | none => .error .reservedOpcode
  | some i =>
    if !f.rsvOk then .error .reservedField
    else if !f.dataOk then .error .dataNotZero
    else .ok i

/-- The decoder: total on the 65536 words (R81: "The decoder is total"). -/
def decode (w : Word) : Decoded := decodeFields (fieldsOf w)

/-- The opcode of a command (R82). -/
def Instr.opc : Instr → BitVec 4
  | .start => 1
  | .restart => 2
  | .stop => 3
  | .ack => 4
  | .nack => 5
  | .waitIdle => 6
  | .writeByte _ => 7
  | .readByte => 8
  | .readTemperature => 9
  | .readHumidity => 10

/-- The data field of a command: the operand of `WRITE_BYTE`, `0x00` for every other (R80, R84). -/
def Instr.data : Instr → Byte
  | .writeByte v => v
  | .start | .restart | .stop | .ack | .nack | .waitIdle | .readByte | .readTemperature | .readHumidity => 0

/-- The encoder: the command word of a command (R80, R82). -/
def encode (i : Instr) : Word := (Fields.mk i.opc 0 i.data).word

/-- The `match` column of R82. -/
def Instr.rowMatch : Instr → Word
  | .start => 0x1000
  | .restart => 0x2000
  | .stop => 0x3000
  | .ack => 0x4000
  | .nack => 0x5000
  | .waitIdle => 0x6000
  | .writeByte _ => 0x7000
  | .readByte => 0x8000
  | .readTemperature => 0x9000
  | .readHumidity => 0xA000

/-- The `mask` column of R82. -/
def Instr.rowMask : Instr → Word
  | .writeByte _ => 0xFF00
  | .start | .restart | .stop | .ack | .nack | .waitIdle | .readByte | .readTemperature | .readHumidity => 0xFFFF

/-- The rows of R82 as (match, mask), in its order. -/
def opcodeRows : List (Word × Word) :=
  [(0x1000, 0xFFFF), (0x2000, 0xFFFF), (0x3000, 0xFFFF), (0x4000, 0xFFFF), (0x5000, 0xFFFF), (0x6000, 0xFFFF),
   (0x7000, 0xFF00), (0x8000, 0xFFFF), (0x9000, 0xFFFF), (0xA000, 0xFFFF)]

/-- What the decoder reads from an instruction whose bits are `w`, the first word's bit 0 least. Every command is one
16-bit word (R85), so the bits from 16 up must be 0. -/
def decodeTableWord (nbits w : Nat) : Option Instr :=
  if w % 2 ^ nbits < 2 ^ 16 then
    match decode (BitVec.ofNat 16 (w % 2 ^ nbits)) with
    | .ok i => some i
    | .error _ => none
  else none

/-- One hexadecimal digit, upper case. -/
def hexDigit (n : Nat) : String :=
  ["0", "1", "2", "3", "4", "5", "6", "7", "8", "9", "A", "B", "C", "D", "E", "F"].getD n "0"

/-- The assembler line of a command: its mnemonic and, for `WRITE_BYTE`, the byte in `0x` hexadecimal (R86). -/
def Instr.asm : Instr → String
  | .writeByte v => "WRITE_BYTE 0x" ++ hexDigit (v.toNat / 16) ++ hexDigit (v.toNat % 16)
  | .start => Instr.start.mnemonic
  | .restart => Instr.restart.mnemonic
  | .stop => Instr.stop.mnemonic
  | .ack => Instr.ack.mnemonic
  | .nack => Instr.nack.mnemonic
  | .waitIdle => Instr.waitIdle.mnemonic
  | .readByte => Instr.readByte.mnemonic
  | .readTemperature => Instr.readTemperature.mnemonic
  | .readHumidity => Instr.readHumidity.mnemonic

/-- The words of a program, a list of commands (R86). -/
def programWords (p : List Instr) : List Word := p.map encode

end Sys2Proof
end

