-- ==== Sys2Proof/Machine/Events.lean ====
section
/-!
DEFINITION. What passes between the block and the outside: bus events (20_memory.md R67), what the Host may do
(10_state.md R40 to R42, 70_reset_and_hazards.md R210), and whose turn a step is (00_scope.md R8).
-/
namespace Sys2Proof.Machine

/-- The bus events of 20_memory.md R67. -/
inductive BusEvent where
  /-- `S`, a start condition. -/
  | start
  /-- `Sr`, a repeated start. -/
  | restart
  /-- `P`, a stop condition. -/
  | stop
  /-- `W(b, a)`: the controller sent `b`; the device's acknowledge bit was `a`, `true` = 1 = not acknowledged (R5). -/
  | wrote (b : Byte) (a : Bool)
  /-- `R(b)`: the device sent `b`. -/
  | got (b : Byte)
  /-- `A`, the controller drove acknowledge (0). -/
  | ack
  /-- `N`, the controller drove not-acknowledge (1). -/
  | nack
  deriving DecidableEq, Repr

/-- What the Host does in one of its turns (00_scope.md R8). -/
inductive HostAct where
  /-- A write of `w` to register number `n` (10_state.md R42); number 0 is `CMD`, the issue of a command word (R81). -/
  | write (n : Nat) (w : Word)
  /-- A read of register number `n` (R41). -/
  | read (n : Nat)
  /-- Reset (70_reset_and_hazards.md R210). -/
  | reset
  /-- A program line (30_encoding.md R86): the Host waits for `READY = 1`, the word is written to `CMD`, and the command
  it starts is run until `READY = 1`, all as one step (40_bus_primitives.md R119, 41_transaction_sequencer.md R151;
  entry 1 of the log). A Host that does not wait takes the turn `write 0 w`. -/
  | issue (w : Word)
  deriving DecidableEq, Repr, Inhabited

/-- Whose turn a step is (00_scope.md R8). The device has no step of its own. -/
inductive Turn where
  | host (a : HostAct)
  /-- The Executor with the sequencer above it. -/
  | executor
  /-- The Bus engine. -/
  | engine
  deriving DecidableEq, Repr, Inhabited

/-- The two agents of the block itself (R8). -/
inductive Agent where
  | executor
  | engine
  deriving DecidableEq, Repr

end Sys2Proof.Machine
end

