-- ==== Sys2Proof/Config.lean ====
section
/-!
DEFINITION. The parameters of 00_scope.md R4 and the free values: the device's answers (20_memory.md R68) and the
schedule (00_scope.md R8).
-/
namespace Sys2Proof

/-- `DEV_WADDR` (R4, 20_memory.md R62). -/
def Config.devWaddr : Byte := 0x80
/-- `DEV_RADDR` (R4, R62). -/
def Config.devRaddr : Byte := 0x81
/-- `CMD_TEMP` (R4, R62). -/
def Config.cmdTemp : Byte := 0xE3
/-- `CMD_HUM` (R4, R62). -/
def Config.cmdHum : Byte := 0xE5
/-- `LSB_MASK` (R4, 41_transaction_sequencer.md R152). -/
def Config.lsbMask : Byte := 0xFC

/-- `NOACK_POLICY` (R4): what a missing acknowledge does in a transaction (41_transaction_sequencer.md R145, R148). -/
inductive NoackPolicy where
  /-- This hardware: the transaction aborts. -/
  | abort
  /-- The original design: it hangs. -/
  | hang
  deriving DecidableEq, Repr

/-- The rounding rule of a binary floating-point format (42_decode.md R171). -/
inductive Rounding where
  | nearestEven
  | nearestAway
  | towardZero
  | towardPositive
  | towardNegative
  deriving DecidableEq, Repr

/-- `FLOAT_FMT` (R4, 42_decode.md R171): the widths of a binary interchange format's exponent and fraction fields, and
its rounding rule. -/
structure FloatFmt where
  expBits : Nat
  fracBits : Nat
  rounding : Rounding
  deriving DecidableEq, Repr

/-- IEEE 754 binary64, round to nearest, ties to even: the default of R171. -/
def FloatFmt.binary64 : FloatFmt := ⟨11, 52, .nearestEven⟩

/-- IEEE 754 binary32 with the same rounding (R171). -/
def FloatFmt.binary32 : FloatFmt := ⟨8, 23, .nearestEven⟩

/-- The width of a value's bit pattern: sign, exponent and fraction. -/
def FloatFmt.width (f : FloatFmt) : Nat := 1 + f.expBits + f.fracBits

/-- The parameters that are arguments of the model (R4): fixed while the machine runs. -/
structure Params where
  noack : NoackPolicy
  fmt : FloatFmt
  deriving DecidableEq, Repr

/-- This hardware's parameters: `ABORT`, and the default format (R4). -/
def Params.thisHardware : Params := ⟨.abort, .binary64⟩

/-- FREE VALUE: `DevAck`, the device's acknowledge bit for a byte, which may depend on the whole `TRACE` so far
(20_memory.md R68). Used where the script `State.acks` is at its end (entry 3). -/
opaque Config.devAck : List Machine.BusEvent → Byte → Bool

/-- FREE VALUE: `DevByte`, the byte the device sends (R68). Used where the script `State.bytes` is at its end. -/
opaque Config.devByte : List Machine.BusEvent → Byte

/-- FREE VALUE: whose turn comes next, and what the Host does in it, where `State.agenda` is at its end
(00_scope.md R8: "Any agent with an enabled step may be scheduled next"; entry 2). -/
opaque Config.turn : Nat → Machine.Turn

/-- FREE VALUE: the bit pattern of a not-a-number of a format. No operation of a format in the spec's range reaches one
(42_decode.md R178; entry 8). -/
opaque Config.nanBits : FloatFmt → Nat

end Sys2Proof
end

