-- ==== Sys2Proof/Machine/State.lean ====
section
/-!
DEFINITION. The state of the block (10_state.md R20), as plain data, with the model's own fields for the outside; its
value at reset (R44); the ways a step could stop.
-/
namespace Sys2Proof.Machine

/-- The eight primitives, the nonzero values of `OP` (10_state.md R29). -/
inductive Prim where
  | start | restart | stop | ack | nack | waitIdle | writeByte | readByte
  deriving DecidableEq, Repr

/-- `PH` (R29): 0, 1 or 2. -/
inductive Phase where
  | p0 | p1 | p2
  deriving DecidableEq, Repr

/-- `TXSTAT` (R26): 0, `TXSTAT_SHIFT` = 1, `TXSTAT_ACKW` = 2. -/
inductive TxStat where
  | idle | shift | ackWait
  deriving DecidableEq, Repr

/-- `BUSPH` (R28): 0, 1, 2. -/
inductive BusPhase where
  | free | owned | ackOwed
  deriving DecidableEq, Repr

/-- `KIND` (R30): 0 temperature, 1 humidity. -/
inductive Kind where
  | temperature | humidity
  deriving DecidableEq, Repr

/-- `TSTAT` (R36): 0 `NONE`, 1 `OK`, 2 `NOACK`. -/
inductive TStat where
  | none | ok | noack
  deriving DecidableEq, Repr

/-- The sticky fault bits (R38). -/
inductive FaultBit where
  | illcmd | ovr | proto
  deriving DecidableEq, Repr

/-- The state: every register of R20 (`BUSY` and `READY` are functions of it, R27, R31), `TRACE`, and after them the
model's own fields, which stand for what is outside the block. -/
structure State where
  /-- `SEN`: a start condition is requested (R21). -/
  sen : Bool
  /-- `RSEN`: a repeated start is requested (R21). -/
  rsen : Bool
  /-- `PEN`: a stop condition is requested (R21). -/
  pen : Bool
  /-- `RCEN`: a receive is requested (R21). -/
  rcen : Bool
  /-- `ACKEN`: an acknowledge sequence is requested (R21). -/
  acken : Bool
  /-- `ACKDT`: the acknowledge bit the controller will drive, `true` = 1 = not acknowledge (R22). -/
  ackdt : Bool
  /-- `BUF` (R23). -/
  buf : Byte
  /-- `BF` (R24). -/
  bf : Bool
  /-- `ACKSTAT`: the device's last acknowledge bit, `true` = 1 = not acknowledged (R25). -/
  ackstat : Bool
  /-- `TXSTAT` (R26). -/
  txstat : TxStat
  /-- `BUSPH` (R28). -/
  busph : BusPhase
  /-- `OP`: the primitive in progress, `none` = 0 (R29). -/
  op : Option Prim
  /-- `PH` (R29). -/
  ph : Phase
  /-- `OPDATA` (R29). -/
  opdata : Byte
  /-- `SEQ_STEP`, the program counter of the microprogram (R30). -/
  seqStep : Fin 19
  /-- `KIND` (R30). -/
  kind : Kind
  /-- `RXDATA` (R32). -/
  rxdata : Byte
  /-- `MSB` (R33). -/
  msb : Byte
  /-- `LSB` (R33). -/
  lsb : Byte
  /-- `CHK` (R33). -/
  chk : Byte
  /-- `RAW` (R34). -/
  raw : Word
  /-- `RESULT`, the bit pattern of a value of `FLOAT_FMT` (R35); the one register whose width is a parameter. -/
  result : Nat
  /-- `TSTAT` (R36). -/
  tstat : TStat
  /-- `ERRSTEP` (R37). -/
  errstep : Fin 19
  /-- `FAULT.ILLCMD` (R38). -/
  illcmd : Bool
  /-- `FAULT.OVR` (R38). -/
  ovr : Bool
  /-- `FAULT.PROTO` (R38). -/
  proto : Bool
  /-- `TRACE`, oldest event first (R39). -/
  trace : List BusEvent
  /-- Model's own: the parameters of 00_scope.md R4; no step writes them (entry 5). -/
  params : Params
  /-- Model's own: the acknowledge bits the device will answer next, first first (entry 3). -/
  acks : List Bool
  /-- Model's own: the bytes the device will send next, first first (entry 3). -/
  bytes : List Byte
  /-- Model's own: the turns to come, first first (entry 2). -/
  agenda : List Turn
  /-- Model's own: how many turns were drawn from `Config.turn` (entry 2). -/
  tick : Nat
  /-- Model's own: what the Host's last register read returned (entry 11). -/
  hostRd : Nat
  deriving DecidableEq, Repr

/-- Every register at the value of 10_state.md R44, at power-up (`TRACE` empty, 70_reset_and_hazards.md R210), with
this hardware's parameters and nothing placed in the model's own fields (entries 2, 3, 5, 11). -/
def State.reset : State where
  sen := false
  rsen := false
  pen := false
  rcen := false
  acken := false
  ackdt := false
  buf := 0
  bf := false
  ackstat := false
  txstat := .idle
  busph := .free
  op := none
  ph := .p0
  opdata := 0
  seqStep := 0
  kind := .temperature
  rxdata := 0
  msb := 0
  lsb := 0
  chk := 0
  raw := 0
  result := 0
  tstat := .none
  errstep := 0
  illcmd := false
  ovr := false
  proto := false
  trace := []
  params := Params.thisHardware
  acks := []
  bytes := []
  agenda := []
  tick := 0
  hostRd := 0

/-- The faults that stop the machine: NONE. The spec's faults are status bits with which the machine goes on
(60_exceptions.md R189), and a hang is a state in which the block has no enabled step (R185), so no step can answer
with a fault (entry 13). -/
inductive Fault where
  deriving DecidableEq, Repr

/-- Why an instruction would have no meaning in the model. -/
inductive Refusal where
  /-- Raised by an arm of `exec` for a command not modelled yet; safe. No arm raises it. -/
  | notModelled (mnemonic : String)
  deriving DecidableEq, Repr

end Sys2Proof.Machine
end

