-- ==== Sys2Proof/Machine/Flags.lean ====
section
/-!
DEFINITION. What is computed from the state without changing it: `BUSY`, `READY`, the legality table
(40_bus_primitives.md R118), and the registers as the Host reads them (10_state.md R40).
-/
namespace Sys2Proof.Machine

/-- `BUSY = SEN | RSEN | PEN | RCEN | ACKEN | (TXSTAT != 0)` (10_state.md R27): the Bus engine owes a bus event. -/
def State.busy (s : State) : Bool := s.sen || s.rsen || s.pen || s.rcen || s.acken || s.txstat != .idle

/-- `READY = (OP == 0) and (SEQ_STEP == 0)` (10_state.md R31). -/
def State.ready (s : State) : Bool := s.op.isNone && s.seqStep == 0

/-- The idle test of `WAIT_IDLE`: `TXSTAT == 0 and BUSY == 0` (40_bus_primitives.md R106). -/
def State.busIdle (s : State) : Bool := s.txstat == .idle && !s.busy

/-- The legality table of 40_bus_primitives.md R118. -/
def legalIn : Prim → BusPhase → Bool
  | .start, .free => true
  | .restart, .owned => true
  | .stop, .owned => true
  | .ack, .ackOwed => true
  | .nack, .ackOwed => true
  | .waitIdle, .free => true
  | .waitIdle, .owned => true
  | .waitIdle, .ackOwed => true
  | .writeByte, .owned => true
  | .readByte, .owned => true
  | .start, .owned => false
  | .start, .ackOwed => false
  | .restart, .free => false
  | .restart, .ackOwed => false
  | .stop, .free => false
  | .stop, .ackOwed => false
  | .ack, .free => false
  | .ack, .owned => false
  | .nack, .free => false
  | .nack, .owned => false
  | .writeByte, .free => false
  | .writeByte, .ackOwed => false
  | .readByte, .free => false
  | .readByte, .ackOwed => false

/-- The opcode in `OP` (10_state.md R29, 30_encoding.md R82). -/
def opCode : Option Prim → BitVec 4
  | none => 0
  | some .start => 1
  | some .restart => 2
  | some .stop => 3
  | some .ack => 4
  | some .nack => 5
  | some .waitIdle => 6
  | some .writeByte => 7
  | some .readByte => 8

/-- The value of `PH` (R29). -/
def Phase.code : Phase → BitVec 2
  | .p0 => 0
  | .p1 => 1
  | .p2 => 2

/-- The value of `TXSTAT` (R26; `TXSTAT_SHIFT` and `TXSTAT_ACKW` of 00_scope.md R4). -/
def TxStat.code : TxStat → BitVec 4
  | .idle => 0
  | .shift => 1
  | .ackWait => 2

/-- The value of `BUSPH` (R28). -/
def BusPhase.code : BusPhase → BitVec 2
  | .free => 0
  | .owned => 1
  | .ackOwed => 2

/-- The value of `KIND` (R30). -/
def Kind.code : Kind → BitVec 1
  | .temperature => 0
  | .humidity => 1

/-- The value of `TSTAT` (R36). -/
def TStat.code : TStat → BitVec 2
  | .none => 0
  | .ok => 1
  | .noack => 2

/-- The five bits of `SEQ_STEP` and `ERRSTEP` (R30, R37). -/
def stepCode (k : Fin 19) : BitVec 5 := BitVec.ofNat 5 k.val

/-- Register 1, `STATUS` (R40): `[0] READY [2:1] TSTAT [3] KIND [4] BF [5] ACKSTAT [6] BUSY [7] 0 [11:8] TXSTAT
[13:12] BUSPH [15:14] 0`. -/
def State.statusReg (s : State) : BitVec 16 :=
  0#2 ++ s.busph.code ++ s.txstat.code ++ 0#1 ++ bit s.busy ++ bit s.ackstat ++ bit s.bf ++ s.kind.code ++
    s.tstat.code ++ bit s.ready

/-- Register 2, `CTL` (R40): `[0] SEN [1] RSEN [2] PEN [3] RCEN [4] ACKEN [5] ACKDT [7:6] 0`. -/
def State.ctlReg (s : State) : BitVec 8 :=
  0#2 ++ bit s.ackdt ++ bit s.acken ++ bit s.rcen ++ bit s.pen ++ bit s.rsen ++ bit s.sen

/-- Register 3, `FAULT` (R40): `[0] ILLCMD [1] OVR [2] PROTO [7:3] 0`. -/
def State.faultReg (s : State) : BitVec 8 := 0#5 ++ bit s.proto ++ bit s.ovr ++ bit s.illcmd

/-- Register 4, `SEQ` (R40): `[4:0] SEQ_STEP [7:5] 0 [12:8] ERRSTEP [15:13] 0`. -/
def State.seqReg (s : State) : BitVec 16 := 0#3 ++ stepCode s.errstep ++ 0#3 ++ stepCode s.seqStep

/-- Register 5, `EXEC` (R40): `[3:0] OP [5:4] PH [7:6] 0 [15:8] OPDATA`. -/
def State.execReg (s : State) : BitVec 16 := s.opdata ++ 0#2 ++ s.ph.code ++ opCode s.op

/-- What the Host reads from register number `n` (R40, R41): `CMD` reads as 0, and numbers 12 and above do not exist
and read as 0. Each register is zero-extended to a number, since their widths differ. -/
def readReg (n : Nat) (s : State) : Nat :=
  match n with
  | 1 => s.statusReg.toNat
  | 2 => s.ctlReg.toNat
  | 3 => s.faultReg.toNat
  | 4 => s.seqReg.toNat
  | 5 => s.execReg.toNat
  | 6 => s.rxdata.toNat
  | 7 => s.msb.toNat
  | 8 => s.lsb.toNat
  | 9 => s.chk.toNat
  | 10 => s.raw.toNat
  | 11 => s.result
  | _ => 0

end Sys2Proof.Machine
end

