-- ==== Sys2Proof/Machine/Operands.lean ====
section
/-!
DEFINITION. The operands of the commands and of the microprogram. A command has one operand form, the data byte of
`WRITE_BYTE` (30_encoding.md R84); the microprogram's entries (41_transaction_sequencer.md R143) take theirs from the
constants of 00_scope.md R4.
-/
namespace Sys2Proof.Machine

/-- The command byte of a transaction: `0xE3` temperature, `0xE5` humidity (R141, R142, step 4 of R143). -/
def Kind.cmdByte : Kind → Byte
  | .temperature => Config.cmdTemp
  | .humidity => Config.cmdHum

/-- The primitive a command names; a transaction names none (30_encoding.md R82; 10_state.md R29: "`OP` never holds 9 or
10"). -/
def primOf : Instr → Option Prim
  | .start => some .start
  | .restart => some .restart
  | .stop => some .stop
  | .ack => some .ack
  | .nack => some .nack
  | .waitIdle => some .waitIdle
  | .writeByte _ => some .writeByte
  | .readByte => some .readByte
  | .readTemperature => none
  | .readHumidity => none

/-- The transaction a command names (R141, R142); a primitive names none. -/
def kindOf : Instr → Option Kind
  | .readTemperature => some .temperature
  | .readHumidity => some .humidity
  | .start => none
  | .restart => none
  | .stop => none
  | .ack => none
  | .nack => none
  | .waitIdle => none
  | .writeByte _ => none
  | .readByte => none

/-- The command of a transaction. -/
def Kind.command : Kind → Instr
  | .temperature => .readTemperature
  | .humidity => .readHumidity

/-- Which register a `READ_BYTE` of the microprogram is copied to when it retires (the post-actions of R143). -/
inductive Post where
  | nothing | msb | lsb | chk
  deriving DecidableEq, Repr

/-- An entry of the microprogram (R143, R89). -/
inductive Entry where
  /-- `SEQ_STEP` 0: no transaction in progress. -/
  | idle
  /-- A primitive with its data byte, its post-action, and the next step. -/
  | prim (p : Prim) (data : Byte) (post : Post) (next : Fin 19)
  /-- `CHKACK`, with the step that follows an acknowledged byte (R145). -/
  | chkAck (next : Fin 19)
  /-- `DONE` (R147). -/
  | done
  /-- `FAIL` (R146). -/
  | fail
  deriving DecidableEq, Repr

/-- The microprogram, the 18-entry table of R143, by `SEQ_STEP`. -/
def microprogram (kind : Kind) (k : Fin 19) : Entry :=
  match k.val with
  | 1 => .prim .start 0 .nothing 2
  | 2 => .prim .writeByte Config.devWaddr .nothing 3
  | 3 => .chkAck 4
  | 4 => .prim .writeByte kind.cmdByte .nothing 5
  | 5 => .chkAck 6
  | 6 => .prim .restart 0 .nothing 7
  | 7 => .prim .writeByte Config.devRaddr .nothing 8
  | 8 => .chkAck 9
  | 9 => .prim .readByte 0 .msb 10
  | 10 => .prim .ack 0 .nothing 11
  | 11 => .prim .readByte 0 .lsb 12
  | 12 => .prim .ack 0 .nothing 13
  | 13 => .prim .readByte 0 .chk 14
  | 14 => .prim .nack 0 .nothing 15
  | 15 => .prim .stop 0 .nothing 16
  | 16 => .done
  | 17 => .prim .stop 0 .nothing 18
  | 18 => .fail
  | _ => .idle

/-- The macro expansion of a transaction as primitive commands (30_encoding.md R87); a primitive stands for itself. -/
def expansion : Instr → List Instr
  | .readTemperature => transactionCommands Kind.temperature
  | .readHumidity => transactionCommands Kind.humidity
  | .start => [.start]
  | .restart => [.restart]
  | .stop => [.stop]
  | .ack => [.ack]
  | .nack => [.nack]
  | .waitIdle => [.waitIdle]
  | .writeByte v => [.writeByte v]
  | .readByte => [.readByte]
where
  /-- The twelve primitive commands of R87. -/
  transactionCommands (k : Kind) : List Instr :=
    [.start, .writeByte Config.devWaddr, .writeByte k.cmdByte, .restart, .writeByte Config.devRaddr,
     .readByte, .ack, .readByte, .ack, .readByte, .nack, .stop]

end Sys2Proof.Machine
end

