-- ==== Sys2Proof/Machine/Ops.lean ====
section
/-!
DEFINITION. The operations the meanings share: raising a fault (00_scope.md R6, 60_exceptions.md R189), emitting a bus
event, drawing the device's answers (20_memory.md R68), accepting a command (30_encoding.md R81,
41_transaction_sequencer.md R140), retiring a primitive (R6, R144), and reset (70_reset_and_hazards.md R210).
-/
namespace Sys2Proof.Machine

/-- `raise Fault(F)`: sets sticky bit `FAULT.F` and changes nothing else (00_scope.md R6, 30_encoding.md R81,
60_exceptions.md R189). There is no vector, nothing is saved, and there is no return (R190). -/
def raiseFault (f : FaultBit) (s : State) : State :=
  match f with
  | .illcmd => { s with illcmd := true }
  | .ovr => { s with ovr := true }
  | .proto => { s with proto := true }

/-- `BusEmit(e)`: appends `e` to `TRACE` (00_scope.md R6, 20_memory.md R67). -/
def emit (e : BusEvent) (s : State) : State := { s with trace := s.trace ++ [e] }

/-- The acknowledge bit the device answers to byte `b` next: the script's head, or the free value where the script is
at its end (20_memory.md R68). -/
def State.nextAck (s : State) (b : Byte) : Bool :=
  match s.acks with
  | a :: _ => a
  | [] => Config.devAck s.trace b

/-- The byte the device sends next: the script's head, or the free value (20_memory.md R68). -/
def State.nextByte (s : State) : Byte :=
  match s.bytes with
  | b :: _ => b
  | [] => Config.devByte s.trace

/-- Acceptance of a primitive: `OP <- w.opc; OPDATA <- w.data; PH <- 0` (30_encoding.md R81). -/
def acceptPrim (p : Prim) (data : Byte) (s : State) : State := { s with op := some p, opdata := data, ph := .p0 }

/-- Acceptance of a transaction: refused with `PROTO` unless the bus is free (41_transaction_sequencer.md R140). -/
def acceptTransaction (k : Kind) (s : State) : State :=
  if s.busph = .free then { s with kind := k, tstat := .none, errstep := 0, seqStep := 1 }
  else raiseFault .proto s

/-- The sequencer's dispatch of a primitive: `OP`, `OPDATA`, `PH`, with `SEQ_STEP` unchanged
(41_transaction_sequencer.md R143). -/
def dispatch (p : Prim) (data : Byte) (s : State) : State := { s with op := some p, opdata := data, ph := .p0 }

/-- A post-action of the microprogram: copies `RXDATA` (41_transaction_sequencer.md R143, R144). -/
def doPost (p : Post) (s : State) : State :=
  match p with
  | .nothing => s
  | .msb => { s with msb := s.rxdata }
  | .lsb => { s with lsb := s.rxdata }
  | .chk => { s with chk := s.rxdata }

/-- What retirement does to the sequencer: nothing outside a transaction; inside, the post-action of the entry at
`SEQ_STEP` and then `SEQ_STEP <- next` (41_transaction_sequencer.md R144). -/
def advanceSeq (s : State) : State :=
  match microprogram s.kind s.seqStep with
  | .prim _ _ post next => { doPost post s with seqStep := next }
  | .chkAck next => { s with seqStep := next }
  | .done => { s with seqStep := 0 }
  | .fail => { s with seqStep := 0 }
  | .idle => s

/-- `retire`: `OP <- 0; PH <- 0` and, inside a transaction, the post-action (00_scope.md R6, 40_bus_primitives.md R100). -/
def retire (s : State) : State := advanceSeq { s with op := none, ph := .p0 }

/-- A primitive refused in phase 0: `raise Fault(PROTO)`, and it retires in the same step (40_bus_primitives.md R100,
60_exceptions.md R184). -/
def refuse (s : State) : State := retire (raiseFault .proto s)

/-- Reset (70_reset_and_hazards.md R210): every register of R20 takes its value of 10_state.md R44, `TRACE` is unchanged
and no bus event is emitted. The model's own fields are outside the block and keep their values. -/
def resetBlock (s : State) : State :=
  { State.reset with
    trace := s.trace, params := s.params, acks := s.acks, bytes := s.bytes, agenda := s.agenda, tick := s.tick,
    hostRd := s.hostRd }

end Sys2Proof.Machine
end

