-- ==== Sys2Proof/Machine/Engine.lean ====
section
/-!
DEFINITION. The Bus engine (40_bus_primitives.md R110 to R117): one step for each thing that can be owed to the bus.
-/
namespace Sys2Proof.Machine

/-- `E_START` (R110). -/
def engineStart (s : State) : State := { emit .start s with busph := .owned, sen := false }

/-- `E_RESTART` (R111). -/
def engineRestart (s : State) : State := { emit .restart s with rsen := false }

/-- `E_STOP` (R112). -/
def engineStop (s : State) : State := { emit .stop s with busph := .free, pen := false }

/-- `E_ACK` (R113). -/
def engineAck (s : State) : State :=
  { emit (if s.ackdt then .nack else .ack) s with busph := .owned, acken := false }

/-- `E_TXSHIFT` (R114). -/
def engineTxShift (s : State) : State := { s with bf := false, txstat := .ackWait }

/-- `E_TXACK` (R115). -/
def engineTxAck (s : State) : State :=
  { emit (.wrote s.buf (s.nextAck s.buf)) s with
    ackstat := s.nextAck s.buf, acks := s.acks.tail, txstat := .idle }

/-- `E_RX` (R116). -/
def engineRx (s : State) : State :=
  { emit (.got s.nextByte) s with
    buf := s.nextByte, bytes := s.bytes.tail, bf := true, busph := .ackOwed, rcen := false }

/-- One step of the Bus engine: the step that is enabled, or nothing. At most one is enabled in a state that a run
reaches (10_state.md R43 item 1); in another state the order of the rules decides (entry 7). -/
def engineStep (s : State) : State :=
  if s.sen then engineStart s
  else if s.rsen then engineRestart s
  else if s.pen then engineStop s
  else if s.acken then engineAck s
  else if s.txstat = .shift then engineTxShift s
  else if s.txstat = .ackWait then engineTxAck s
  else if s.rcen then engineRx s
  else s

end Sys2Proof.Machine
end

