-- ==== Sys2Proof/Machine/Float.lean ====
section
/-!
DEFINITION. Floating-point arithmetic over a format with a rounding rule, and the decode of the raw sample as a chain of
single operations, each rounded once (42_decode.md R170 to R179). Beside it the exact rational values of R177.
-/
namespace Sys2Proof.Machine

/-- A value of a binary floating-point format: not a number, an infinity with its sign, or the number
`(-1)^neg * sig * 2^exp`. -/
inductive FloatVal where
  | nan
  | inf (neg : Bool)
  | fin (neg : Bool) (sig : Nat) (exp : Int)
  deriving DecidableEq, Repr

/-- The largest exponent of a format, and the bias of its exponent field. -/
def emaxOf (f : FloatFmt) : Int := (2 : Int) ^ (f.expBits - 1) - 1

/-- The exponent of the smallest normal number of a format. -/
def eminOf (f : FloatFmt) : Int := 1 - emaxOf f

/-- `2^n` for `n ≥ 0`, and 1 for a negative `n`. -/
def pow2 (n : Int) : Nat := 2 ^ n.toNat

/-- The exponent of the leading bit of `num / den`, for both nonzero: the `e` with `2^e ≤ num / den < 2^(e+1)`. -/
def leadExp (num den : Nat) : Int :=
  let k : Int := (Nat.log2 num : Int) - (Nat.log2 den : Int)
  if den * pow2 k ≤ num * pow2 (-k) then k else k - 1

/-- Whether a magnitude whose integer part is `lo` and whose discarded part is `rem / den` rounds up. -/
def roundsUp (r : Rounding) (neg : Bool) (lo rem den : Nat) : Bool :=
  match r with
  | .nearestEven => 2 * rem > den || (2 * rem == den && lo % 2 == 1)
  | .nearestAway => 2 * rem ≥ den
  | .towardZero => false
  | .towardPositive => rem != 0 && !neg
  | .towardNegative => rem != 0 && neg

/-- What a magnitude above the format's range becomes. -/
def overflowVal (f : FloatFmt) (neg : Bool) : FloatVal :=
  let largest : FloatVal := .fin neg (2 ^ (f.fracBits + 1) - 1) (emaxOf f - f.fracBits)
  match f.rounding with
  | .nearestEven => .inf neg
  | .nearestAway => .inf neg
  | .towardZero => largest
  | .towardPositive => if neg then largest else .inf neg
  | .towardNegative => if neg then .inf neg else largest

/-- The number `(-1)^neg * num / den`, rounded once to the format (42_decode.md R171). -/
def roundRat (f : FloatFmt) (neg : Bool) (num den : Nat) : FloatVal :=
  if num = 0 then .fin neg 0 0
  else
    let q : Int := max (leadExp num den) (eminOf f) - f.fracBits
    let n := num * pow2 (-q)
    let d := den * pow2 q
    let sig := if roundsUp f.rounding neg (n / d) (n % d) d then n / d + 1 else n / d
    if (Nat.log2 sig : Int) + q > emaxOf f then overflowVal f neg else .fin neg sig q

/-- The numerator of a finite magnitude. -/
def numOf (sig : Nat) (exp : Int) : Nat := sig * pow2 exp

/-- The denominator of a finite magnitude. -/
def denOf (exp : Int) : Nat := pow2 (-exp)

/-- Multiplication, rounded once. -/
def fmul (f : FloatFmt) : FloatVal → FloatVal → FloatVal
  | .fin na sa ea, .fin nb sb eb => roundRat f (na != nb) (numOf sa ea * numOf sb eb) (denOf ea * denOf eb)
  | .inf na, .inf nb => .inf (na != nb)
  | .inf na, .fin nb sb _ => if sb = 0 then .nan else .inf (na != nb)
  | .fin na sa _, .inf nb => if sa = 0 then .nan else .inf (na != nb)
  | .nan, _ => .nan
  | _, .nan => .nan

/-- Division, rounded once. -/
def fdiv (f : FloatFmt) : FloatVal → FloatVal → FloatVal
  | .fin na sa ea, .fin nb sb eb =>
    if sb = 0 then (if sa = 0 then .nan else .inf (na != nb))
    else roundRat f (na != nb) (numOf sa ea * denOf eb) (denOf ea * numOf sb eb)
  | .inf _, .inf _ => .nan
  | .inf na, .fin nb _ _ => .inf (na != nb)
  | .fin na _ _, .inf nb => .fin (na != nb) 0 0
  | .nan, _ => .nan
  | _, .nan => .nan

/-- Addition, rounded once. An exact zero sum of opposite signs is +0, or -0 when rounding toward negative. -/
def fadd (f : FloatFmt) : FloatVal → FloatVal → FloatVal
  | .fin na sa ea, .fin nb sb eb =>
    let a : Nat := numOf sa ea * denOf eb
    let b : Nat := numOf sb eb * denOf ea
    let d : Nat := denOf ea * denOf eb
    if na = nb then roundRat f na (a + b) d
    else if a = b then .fin (f.rounding == .towardNegative) 0 0
    else if b < a then roundRat f na (a - b) d
    else roundRat f nb (b - a) d
  | .inf na, .inf nb => if na = nb then .inf na else .nan
  | .inf na, .fin _ _ _ => .inf na
  | .fin _ _ _, .inf nb => .inf nb
  | .nan, _ => .nan
  | _, .nan => .nan

/-- The bit pattern of a value: sign, biased exponent, fraction. -/
def bitsOf (f : FloatFmt) (v : FloatVal) : Nat :=
  let signBit (neg : Bool) : Nat := if neg then 2 ^ (f.expBits + f.fracBits) else 0
  match v with
  | .nan => Config.nanBits f
  | .inf neg => signBit neg + (2 ^ f.expBits - 1) * 2 ^ f.fracBits
  | .fin neg sig exp =>
    if sig = 0 then signBit neg
    else
      let e : Int := (Nat.log2 sig : Int) + exp
      if e < eminOf f then signBit neg + sig * pow2 (exp - (eminOf f - f.fracBits))
      else
        let frac := sig * pow2 (f.fracBits - Nat.log2 sig) / pow2 (Nat.log2 sig - f.fracBits)
        signBit neg + (e + emaxOf f).toNat * 2 ^ f.fracBits + (frac - 2 ^ f.fracBits)

/-- The rule by which a decimal constant is converted: to the nearest value, whatever the format's rule for operations
(R171). Which way a tie goes is the format's own choice where it rounds to nearest, and ties to even elsewhere (entry 8);
no constant of R172 is a tie in binary64 or binary32. -/
def nearestRule : Rounding → Rounding
  | .nearestEven => .nearestEven
  | .nearestAway => .nearestAway
  | .towardZero => .nearestEven
  | .towardPositive => .nearestEven
  | .towardNegative => .nearestEven

/-- A decimal constant, converted once to the nearest value of the format (R171, R172). -/
def constant (f : FloatFmt) (neg : Bool) (num den : Nat) : FloatVal :=
  roundRat { f with rounding := nearestRule f.rounding } neg num den

/-- The ratio `t1 = fl(RAW) / 65536.0` (R173). -/
def ratio (f : FloatFmt) (raw : Word) : FloatVal := fdiv f (roundRat f false raw.toNat 1) (constant f false 65536 1)

/-- `celsius = -46.85 + 175.72 * t1`, one multiplication and one addition, no fused operation (R174). -/
def celsius (f : FloatFmt) (raw : Word) : FloatVal :=
  fadd f (constant f true 4685 100) (fmul f (constant f false 17572 100) (ratio f raw))

/-- `fahrenheit = celsius * 9 / 5 + 32`, read left to right as three operations (R175). -/
def fahrenheit (f : FloatFmt) (raw : Word) : FloatVal :=
  fadd f (fdiv f (fmul f (celsius f raw) (constant f false 9 1)) (constant f false 5 1)) (constant f false 32 1)

/-- `relativeHumidity = -6 + 125 * t1` (R176). -/
def relativeHumidity (f : FloatFmt) (raw : Word) : FloatVal :=
  fadd f (constant f true 6 1) (fmul f (constant f false 125 1) (ratio f raw))

/-- `Decode(KIND, RAW)` (R170, R179): degrees Fahrenheit or percent relative humidity. -/
def decodeSample (f : FloatFmt) (k : Kind) (raw : Word) : FloatVal :=
  match k with
  | .temperature => fahrenheit f raw
  | .humidity => relativeHumidity f raw

/-- `bits(Decode(KIND, RAW))`, truncated to the width of `RESULT` (R179, 00_scope.md R6). -/
def decodeBits (f : FloatFmt) (k : Kind) (raw : Word) : Nat := bitsOf f (decodeSample f k raw) % 2 ^ f.width

/-- The raw sample `(msb << 8) | (lsb & 0xFC)` (41_transaction_sequencer.md R152). -/
def assembleRaw (msb lsb : Byte) : Word := (msb.zeroExtend 16 <<< 8) ||| ((lsb &&& Config.lsbMask).zeroExtend 16)

/-- `celsius_exact(RAW)` of 42_decode.md R177. -/
def celsiusExact (raw : Word) : Rat := (17572 * (raw.toNat : Rat) - 4685 * 65536) / 6553600

/-- `fahrenheit_exact(RAW)` of R177. -/
def fahrenheitExact (raw : Word) : Rat := celsiusExact raw * 9 / 5 + 32

/-- `humidity_exact(RAW)` of R177. -/
def humidityExact (raw : Word) : Rat := -6 + 125 * (raw.toNat : Rat) / 65536

/-- The rational a value stands for; a not-a-number and an infinity stand for none. -/
def valueOf : FloatVal → Option Rat
  | .fin neg sig exp => some ((if neg then -1 else 1) * (numOf sig exp : Rat) / (denOf exp : Rat))
  | .inf _ => none
  | .nan => none

end Sys2Proof.Machine
end

