-- ==== Sys2Proof/Machine/Phases.lean ====
section
/-!
DEFINITION. The phases of the eight primitives (40_bus_primitives.md R100 to R108), one definition per primitive: what
one Executor step does while that primitive is in progress. A `wait until` whose condition is false changes nothing
(00_scope.md R7). A phase the rules do not give (entry 7) has no step.
-/
namespace Sys2Proof.Machine

/-- `START` (R101). -/
def phaseStart (s : State) : State :=
  match s.ph with
  | .p0 => if s.busph = .free then { s with sen := true, ph := .p1 } else refuse s
  | .p1 => if s.sen then s else retire s
  | .p2 => s

/-- `RESTART` (R102). -/
def phaseRestart (s : State) : State :=
  match s.ph with
  | .p0 => if s.busph = .owned then { s with rsen := true, ph := .p1 } else refuse s
  | .p1 => if s.rsen then s else retire s
  | .p2 => s

/-- `STOP` (R103). -/
def phaseStop (s : State) : State :=
  match s.ph with
  | .p0 => if s.busph = .owned then { s with pen := true, ph := .p1 } else refuse s
  | .p1 => if s.pen then s else retire s
  | .p2 => s

/-- `ACK` (R104). -/
def phaseAck (s : State) : State :=
  match s.ph with
  | .p0 => if s.busph = .ackOwed then { s with ackdt := false, acken := true, ph := .p1 } else refuse s
  | .p1 => if s.acken then s else retire s
  | .p2 => s

/-- `NACK` (R105). -/
def phaseNack (s : State) : State :=
  match s.ph with
  | .p0 => if s.busph = .ackOwed then { s with ackdt := true, acken := true, ph := .p1 } else refuse s
  | .p1 => if s.acken then s else retire s
  | .p2 => s

/-- `WAIT_IDLE` (R106). -/
def phaseWaitIdle (s : State) : State :=
  match s.ph with
  | .p0 => if s.busIdle then retire s else s
  | .p1 => s
  | .p2 => s

/-- `WRITE_BYTE` (R107). -/
def phaseWriteByte (s : State) : State :=
  match s.ph with
  | .p0 =>
    if s.busph = .owned then { s with buf := s.opdata, bf := true, txstat := .shift, ph := .p1 } else refuse s
  | .p1 => if s.bf then s else { s with ph := .p2 }
  | .p2 => if s.busIdle then retire s else s

/-- `READ_BYTE` (R108). -/
def phaseReadByte (s : State) : State :=
  match s.ph with
  | .p0 => if s.busph = .owned then { s with rcen := true, ph := .p1 } else refuse s
  | .p1 => if s.bf then { s with ph := .p2 } else s
  | .p2 => if s.busIdle then retire { s with rxdata := s.buf, bf := false } else s

/-- One Executor step of the primitive in progress (R100). -/
def primStep (p : Prim) (s : State) : State :=
  match p with
  | .start => phaseStart s
  | .restart => phaseRestart s
  | .stop => phaseStop s
  | .ack => phaseAck s
  | .nack => phaseNack s
  | .waitIdle => phaseWaitIdle s
  | .writeByte => phaseWriteByte s
  | .readByte => phaseReadByte s

end Sys2Proof.Machine
end

