-- ==== Sys2Proof/Machine/Sequencer.lean ====
section
/-!
DEFINITION. The sequencer's own steps (41_transaction_sequencer.md R143 to R148), the Executor as one agent
(00_scope.md R8), the run of a command to its end, and the Host's accesses of the register file (10_state.md R41, R42).
-/
namespace Sys2Proof.Machine

/-- `CHKACK`, the acknowledge check (R145). Under `HANG` a missing acknowledge leaves no enabled step (R148). -/
def checkAck (next : Fin 19) (s : State) : State :=
  if s.ackstat then
    match s.params.noack with
    | .abort => { s with errstep := s.seqStep, seqStep := 17 }
    | .hang => s
  else { s with seqStep := next }

/-- `DONE`, the completion entry (R147). -/
def complete (s : State) : State :=
  { s with
    raw := assembleRaw s.msb s.lsb
    result := decodeBits s.params.fmt s.kind (assembleRaw s.msb s.lsb)
    tstat := .ok
    seqStep := 0 }

/-- `FAIL`, the abort-completion entry (R146). -/
def abortDone (s : State) : State := { s with tstat := .noack, seqStep := 0 }

/-- The sequencer's step while `OP == 0`, given by the microprogram's entry at `SEQ_STEP` (R143). -/
def sequencerStep (s : State) : State :=
  match microprogram s.kind s.seqStep with
  | .idle => s
  | .prim p data _ _ => dispatch p data s
  | .chkAck next => checkAck next s
  | .done => complete s
  | .fail => abortDone s

/-- One step of the Executor: one phase of the primitive in progress, else one step of the sequencer (00_scope.md R8). -/
def executorStep (s : State) : State :=
  match s.op with
  | some p => primStep p s
  | none => sequencerStep s

/-- One step of an agent of the block. -/
def agentStep (a : Agent) (s : State) : State :=
  match a with
  | .executor => executorStep s
  | .engine => engineStep s

/-- A step of the block with no Host in it: the Bus engine whenever it owes an event, else the Executor. It is one of
the fair schedules, and R119 gives the end state of all of them (entry 4). -/
def blockStep (s : State) : State := if s.busy then engineStep s else executorStep s

/-- The block's steps until `READY = 1`, at most `n` of them. -/
def runToReady : Nat → State → State
  | 0, s => s
  | n + 1, s => if s.ready then s else runToReady n (blockStep s)

/-- As many steps as the longest command takes and more: a successful transaction takes 61 after the Host's write
(95_test_vectors.md V-T10 counts 62 with it). -/
def commandFuel : Nat := 64

/-- The issue of a legal command: refused with `OVR` while another is in progress (30_encoding.md R81, 60_exceptions.md
R183), else accepted by `accept` and run until `READY = 1`; a command that hangs (R148) is left where it hangs. -/
def issueCommand (accept : State → State) (s : State) : Host.Outcome State Fault Refusal :=
  .next (if s.ready then runToReady commandFuel (accept s) else raiseFault .ovr s)

/-- The issue of an illegal word: `OVR` while busy, else `ILLCMD` (30_encoding.md R81, R83). -/
def issueIllegal (s : State) : State := if s.ready then raiseFault .illcmd s else raiseFault .ovr s

/-- The Host's wait for `READY == 1` before it writes (30_encoding.md R86, 70_reset_and_hazards.md R220): the block runs
until then. A command that hangs (41_transaction_sequencer.md R148) leaves the block where it hangs. -/
def waitReady (s : State) : State := runToReady commandFuel s

/-- What the Host does once it has seen `READY == 1` (R86). If the block hangs the Host waits on and does not do it
(70_reset_and_hazards.md R219). -/
def afterReady (act : State → Host.Outcome State Fault Refusal) (s : State) : Host.Outcome State Fault Refusal :=
  if (waitReady s).ready then act (waitReady s) else .next (waitReady s)

/-- Acceptance of a legal command while `READY == 1` (30_encoding.md R81). -/
def accept (i : Instr) (s : State) : State :=
  match i with
  | .start => acceptPrim .start 0 s
  | .restart => acceptPrim .restart 0 s
  | .stop => acceptPrim .stop 0 s
  | .ack => acceptPrim .ack 0 s
  | .nack => acceptPrim .nack 0 s
  | .waitIdle => acceptPrim .waitIdle 0 s
  | .writeByte v => acceptPrim .writeByte v s
  | .readByte => acceptPrim .readByte 0 s
  | .readTemperature => acceptTransaction .temperature s
  | .readHumidity => acceptTransaction .humidity s

/-- A Host write of a word to `CMD`, as the one step of 30_encoding.md R81: `OVR`, else `ILLCMD`, else acceptance. -/
def writeCmd (w : Word) (s : State) : State :=
  if s.ready then
    match decode w with
    | .ok i => accept i s
    | .error _ => raiseFault .illcmd s
  else raiseFault .ovr s

/-- A Host write of register number `n` (10_state.md R42): `CMD`, or ignored. -/
def writeReg (n : Nat) (w : Word) (s : State) : State := if n = 0 then writeCmd w s else s

/-- A Host read of register number `n` (R41): the block is unchanged; the Host has the value. -/
def hostRead (n : Nat) (s : State) : State := { s with hostRd := readReg n s }

/-- A run of the block's agents with no Host in it, by a given schedule. -/
def runAgents (l : List Agent) (s : State) : State :=
  match l with
  | [] => s
  | a :: l => runAgents l (agentStep a s)

end Sys2Proof.Machine
end

