-- ==== Sys2Proof/Machine/Primitives.lean ====
section
/-!
DEFINITION. The meanings of the eight bus primitives as commands (40_bus_primitives.md R101 to R108, R119): issue by
30_encoding.md R81, and the phases with the Bus engine's step to retirement.
-/
namespace Sys2Proof.Machine

/-- `START` (R101; phases `phaseStart`, engine R110). -/
def execStart (s : State) : Host.Outcome State Fault Refusal := issueCommand (acceptPrim .start 0) s

/-- `RESTART` (R102; phases `phaseRestart`, engine R111). -/
def execRestart (s : State) : Host.Outcome State Fault Refusal := issueCommand (acceptPrim .restart 0) s

/-- `STOP` (R103; phases `phaseStop`, engine R112). -/
def execStop (s : State) : Host.Outcome State Fault Refusal := issueCommand (acceptPrim .stop 0) s

/-- `ACK` (R104; phases `phaseAck`, engine R113). -/
def execAck (s : State) : Host.Outcome State Fault Refusal := issueCommand (acceptPrim .ack 0) s

/-- `NACK` (R105; phases `phaseNack`, engine R113). -/
def execNack (s : State) : Host.Outcome State Fault Refusal := issueCommand (acceptPrim .nack 0) s

/-- `WAIT_IDLE` (R106; phase `phaseWaitIdle`). -/
def execWaitIdle (s : State) : Host.Outcome State Fault Refusal := issueCommand (acceptPrim .waitIdle 0) s

/-- `WRITE_BYTE value` (R107; phases `phaseWriteByte`, engine R114, R115). -/
def execWriteByte (value : Byte) (s : State) : Host.Outcome State Fault Refusal :=
  issueCommand (acceptPrim .writeByte value) s

/-- `READ_BYTE` (R108; phases `phaseReadByte`, engine R116). -/
def execReadByte (s : State) : Host.Outcome State Fault Refusal := issueCommand (acceptPrim .readByte 0) s

end Sys2Proof.Machine
end

