-- ==== Sys2Proof/Machine/Transactions.lean ====
section
/-!
DEFINITION. The meanings of the two transaction commands (41_transaction_sequencer.md R140 to R152): acceptance on a free
bus, and the microprogram to its end.
-/
namespace Sys2Proof.Machine

/-- `READ_TEMPERATURE` (R141): `KIND <- 0`, command byte `0xE3`, the temperature decode. -/
def execReadTemperature (s : State) : Host.Outcome State Fault Refusal := issueCommand (acceptTransaction .temperature) s

/-- `READ_HUMIDITY` (R142): `KIND <- 1`, command byte `0xE5`, the humidity decode. -/
def execReadHumidity (s : State) : Host.Outcome State Fault Refusal := issueCommand (acceptTransaction .humidity) s

end Sys2Proof.Machine
end

