-- ==== Sys2Proof/Machine/Step.lean ====
section
/-!
DEFINITION. One step of the machine: the turn of one agent (00_scope.md R8).
-/
namespace Sys2Proof.Machine

/-- Whose turn it is: the head of the agenda, or the free value where the agenda is at its end (entry 2). -/
def State.nextTurn (s : State) : Turn :=
  match s.agenda with
  | t :: _ => t
  | [] => Config.turn s.tick

/-- The state with that turn taken off. -/
def State.popTurn (s : State) : State :=
  match s.agenda with
  | _ :: r => { s with agenda := r }
  | [] => { s with tick := s.tick + 1 }

/-- What a turn does to a state. -/
def takeTurn (t : Turn) (s : State) : Host.Outcome State Fault Refusal :=
  match t with
  | .executor => .next (executorStep s)
  | .engine => .next (engineStep s)
  | .host .reset => .next (resetBlock s)
  | .host (.read n) => .next (hostRead n s)
  | .host (.write n w) => .next (writeReg n w s)
  | .host (.issue w) =>
    match decode w with
    | .ok i => afterReady (exec i) s
    | .error _ => afterReady (fun u => .next (issueIllegal u)) s

/-- One step: the agent whose turn it is takes one step. -/
def step (s : State) : Host.Outcome State Fault Refusal := takeTurn s.nextTurn s.popTurn

/-- `s` with an instruction placed where the next step takes it: as the Host's next turn, the program line that waits
for `READY`, writes the word to `CMD` and sees the command through (30_encoding.md R86; entry 1). Only the low 16 bits are a command word
(R85). -/
def State.withFetchWord (s : State) (nbits w : Nat) : State :=
  { s with agenda := .host (.issue (BitVec.ofNat 16 (w % 2 ^ nbits))) :: s.agenda }

end Sys2Proof.Machine
end

