-- ==== Sys2Proof/Safety.lean ====
section
/-!
DEFINITION. What statements about the block speak of: a run that is over or hung (00_scope.md R9), the invariant
(10_state.md R43, in the inductive form its own note asks for), weak fairness (00_scope.md R8), and what a transaction
appends to `TRACE` (41_transaction_sequencer.md R151).
-/
namespace Sys2Proof.Safety

open Sys2Proof.Machine

/-- A run is over (00_scope.md R9): "no command is in progress, every request flag is clear and no bus event is in
flight"; with `PH` and `BF` 0 (10_state.md R43 item 2). -/
structure Idle (s : State) : Prop where
  op : s.op = none
  seqStep : s.seqStep = 0
  busy : s.busy = false
  bf : s.bf = false
  ph : s.ph = .p0

/-- A hung state (R9): `READY == 0` and no agent of the block has an enabled non-stutter step. -/
def Hung (s : State) : Prop := s.ready = false ∧ ∀ a, agentStep a s = s

/-- An agent's step is enabled: taking it is no stutter (00_scope.md R7). -/
def Enabled (a : Agent) (s : State) : Prop := agentStep a s ≠ s

/-- The state after the first `n` turns of an endless schedule of the block's agents. -/
def stateAt (sched : Nat → Agent) (s : State) : Nat → State
  | 0 => s
  | n + 1 => agentStep (sched n) (stateAt sched s n)

/-- Weak fairness of a schedule from a state: "a step that stays enabled is eventually taken" (00_scope.md R8). -/
def WeaklyFair (sched : Nat → Agent) (s : State) : Prop :=
  ∀ n a, (∀ m, n ≤ m → Enabled a (stateAt sched s m)) → ∃ m, n ≤ m ∧ sched m = a

/-- What the Bus engine owes: exactly these requests, and `TXSTAT` at `t`. -/
def owes (s : State) (sen rsen pen rcen acken : Bool) (t : TxStat) : Bool :=
  s.sen == sen && s.rsen == rsen && s.pen == pen && s.rcen == rcen && s.acken == acken && s.txstat == t

/-- Nothing is owed to the bus. -/
def owesNothing (s : State) : Bool := owes s false false false false false .idle

/-- The last event of `TRACE` is the receipt of a byte. -/
def lastIsGot (s : State) : Bool :=
  match s.trace.getLast? with
  | some (.got _) => true
  | _ => false

/-- How the flags, the buffer and the bus phase stand while a primitive is at a phase. -/
def primShape (p : Prim) (s : State) : Bool :=
  match s.ph with
  | .p0 => owesNothing s && !s.bf
  | .p1 =>
    match p with
    | .start =>
      !s.bf && (owes s true false false false false .idle && s.busph == .free || owesNothing s && s.busph == .owned)
    | .restart => !s.bf && s.busph == .owned && (owes s false true false false false .idle || owesNothing s)
    | .stop =>
      !s.bf && (owes s false false true false false .idle && s.busph == .owned || owesNothing s && s.busph == .free)
    | .ack =>
      !s.bf && !s.ackdt &&
        (owes s false false false false true .idle && s.busph == .ackOwed || owesNothing s && s.busph == .owned)
    | .nack =>
      !s.bf && s.ackdt &&
        (owes s false false false false true .idle && s.busph == .ackOwed || owesNothing s && s.busph == .owned)
    | .waitIdle => false
    | .writeByte =>
      s.buf == s.opdata && s.busph == .owned &&
        (owes s false false false false false .shift && s.bf || owes s false false false false false .ackWait && !s.bf ||
          owesNothing s && !s.bf)
    | .readByte =>
      owes s false false false true false .idle && s.busph == .owned && !s.bf ||
        owesNothing s && s.busph == .ackOwed && s.bf
  | .p2 =>
    match p with
    | .writeByte =>
      s.buf == s.opdata && s.busph == .owned && !s.bf &&
        (owes s false false false false false .ackWait || owesNothing s)
    | .readByte => owesNothing s && s.busph == .ackOwed && s.bf
    | .start => false
    | .restart => false
    | .stop => false
    | .ack => false
    | .nack => false
    | .waitIdle => false

/-- The Executor's part of the invariant. -/
def execShape (s : State) : Bool :=
  match s.op with
  | none => owesNothing s && !s.bf && s.ph == .p0
  | some p => primShape p s

/-- The bus phase in which the microprogram's step `k` begins (41_transaction_sequencer.md R144). -/
def phaseBefore (k : Fin 19) : BusPhase :=
  match k.val with
  | 1 => .free
  | 10 => .ackOwed
  | 12 => .ackOwed
  | 14 => .ackOwed
  | 16 => .free
  | 18 => .free
  | _ => .owned

/-- `ERRSTEP` is one of 0, 3, 5, 8 (10_state.md R37). -/
def errstepLegal (s : State) : Bool := s.errstep == 0 || s.errstep == 3 || s.errstep == 5 || s.errstep == 8

/-- The sequencer's part of the invariant: which primitive and which bus phase go with a step, and what `TSTAT` and
`ERRSTEP` say. -/
def seqShape (s : State) : Bool :=
  match microprogram s.kind s.seqStep with
  | .idle => (s.tstat == .noack) == (s.errstep != 0)
  | .prim p data _ _ =>
    s.tstat == .none && (s.errstep != 0) == (s.seqStep == 17) &&
      (s.op == none && s.busph == phaseBefore s.seqStep ||
        s.op == some p && s.opdata == data && (s.ph != .p0 || s.busph == phaseBefore s.seqStep))
  | .chkAck _ => s.tstat == .none && s.errstep == 0 && s.op == none && s.busph == phaseBefore s.seqStep
  | .done => s.tstat == .none && s.errstep == 0 && s.op == none && s.busph == phaseBefore s.seqStep
  | .fail => s.tstat == .none && s.errstep != 0 && s.op == none && s.busph == phaseBefore s.seqStep

/-- The sample is what the last successful transaction assembled and decoded (10_state.md R43 item 7). -/
def sampleShape (s : State) : Bool :=
  s.tstat != .ok || s.raw == assembleRaw s.msb s.lsb && s.result == decodeBits s.params.fmt s.kind s.raw

/-- The invariant of the block: 10_state.md R43, in a form that every step keeps. -/
structure Inv (s : State) : Prop where
  exec : execShape s = true
  seq : seqShape s = true
  errstep : errstepLegal s = true
  sample : sampleShape s = true
  rawMask : s.raw &&& 3 = 0
  resultWidth : s.result < 2 ^ s.params.fmt.width
  ackOwed : s.busph = .ackOwed → lastIsGot s = true

/-- How many of R43 item 1's six things are nonzero. -/
def owedCount (s : State) : Nat :=
  s.sen.toNat + s.rsen.toNat + s.pen.toNat + s.rcen.toNat + s.acken.toNat + (s.txstat != .idle).toNat

/-- What a successful transaction appends to `TRACE` (41_transaction_sequencer.md R151, last row). -/
def successEvents (k : Kind) (m l c : Byte) : List BusEvent :=
  [.start, .wrote 0x80 false, .wrote k.cmdByte false, .restart, .wrote 0x81 false, .got m, .ack, .got l, .ack, .got c,
   .nack, .stop]

/-- Which of the three acknowledge checks failed. -/
inductive FailedCheck where
  | addressWrite | command | addressRead
  deriving DecidableEq, Repr

/-- `ERRSTEP` for a failed check (41_transaction_sequencer.md R149, R151). -/
def FailedCheck.errstep : FailedCheck → Fin 19
  | .addressWrite => 3
  | .command => 5
  | .addressRead => 8

/-- What a transaction has appended to `TRACE` when its check fails (R151, rows 1 to 3, less the `P`). -/
def FailedCheck.events (k : Kind) : FailedCheck → List BusEvent
  | .addressWrite => [.start, .wrote 0x80 true]
  | .command => [.start, .wrote 0x80 false, .wrote k.cmdByte true]
  | .addressRead => [.start, .wrote 0x80 false, .wrote k.cmdByte false, .restart, .wrote 0x81 true]

/-- The acknowledge bits the device answers up to a failed check. -/
def FailedCheck.answers : FailedCheck → List Bool
  | .addressWrite => [true]
  | .command => [false, true]
  | .addressRead => [false, false, true]

/-- The byte that was not acknowledged, which stays in `BUF` (R151, 60_exceptions.md R189). -/
def FailedCheck.lastByte (k : Kind) : FailedCheck → Byte
  | .addressWrite => 0x80
  | .command => k.cmdByte
  | .addressRead => 0x81

/-- Running a program, a list of commands, as its Host does: "waiting for `READY == 1` before each write" (30_encoding.md
R86). Where the block hangs the Host waits, and the rest of the program is not written. `none` where a command would
end without a next state, which none does. -/
def runProgram : List Instr → State → Option State
  | [], s => some s
  | i :: p, s =>
    match afterReady (exec i) s with
    | .next t => runProgram p t
    | .fault _ => none
    | .refused _ => none

end Sys2Proof.Safety
end

