-- ==== Sys2Proof/Certificates/Slice0/Obligations.lean ====
section
/-!
DEFINITION. The statements for the provers. Each is drawn from the numbered rules its docstring names. A premise
`Idle s` is the end of a run (00_scope.md R9); a premise `Inv s` is the invariant of 10_state.md R43, which
`InvariantAtReset` and `StepKeepsInvariant` state to hold in every state a run reaches.
-/

open Sys2Proof Sys2Proof.Machine Sys2Proof.Safety

/-! ## Encoding -/

/-- Words of 30_encoding.md R82 and vectors V-E1 to V-E22 of 95_test_vectors.md, decoded. -/
def Obligations.SampleWordsDecode : Prop :=
  decode 0x1000 = .ok .start ∧ decode 0x2000 = .ok .restart ∧ decode 0x3000 = .ok .stop ∧ decode 0x4000 = .ok .ack ∧
  decode 0x5000 = .ok .nack ∧ decode 0x6000 = .ok .waitIdle ∧ decode 0x7080 = .ok (.writeByte 0x80) ∧
  decode 0x8000 = .ok .readByte ∧ decode 0x9000 = .ok .readTemperature ∧ decode 0xA000 = .ok .readHumidity ∧
  decode 0xB000 = .error .reservedOpcode ∧ decode 0x71FF = .error .reservedField ∧ decode 0x1001 = .error .dataNotZero

/-- Decoding and encoding agree, in both directions (30_encoding.md R80, R82): a word decodes to a command exactly when
it is that command's word. So every operand byte survives the round trip and no second word spells a command. -/
def Obligations.DecodeInvertsEncodeExactly : Prop :=
  ∀ (w : Word) (i : Instr), decode w = .ok i ↔ w = encode i

/-- 30_encoding.md R83: "`Legal(w)` is true exactly when `w` matches one row of rule R82", and the rows are disjoint
(R82). The decoder accepts exactly the legal words. -/
def Obligations.LegalWordsAreTheTableRows : Prop :=
  ∀ w : Word,
    (legal w = true ↔ ∃ r ∈ opcodeRows, w &&& r.2 = r.1) ∧
    (∀ r ∈ opcodeRows, ∀ r' ∈ opcodeRows, w &&& r.2 = r.1 → w &&& r'.2 = r'.1 → r = r') ∧
    (legal w = true ↔ ∃ i, decode w = .ok i)

/-- 30_encoding.md R83: when a word is illegal, by its fields `opc`, `rsv`, `data`, written out in numbers. -/
def Obligations.IllegalWordsByTheirFields : Prop :=
  ∀ w : Word,
    (∃ e, decode w = .error e) ↔
      (w.toNat / 4096 = 0 ∨ 11 ≤ w.toNat / 4096 ∨ w.toNat / 256 % 16 ≠ 0 ∨
        (w.toNat / 4096 ≠ 7 ∧ w.toNat % 256 ≠ 0))

/-! ## Issue of a command word -/

/-- A step runs the decoded instruction: when the next turn is the Host's program line with word `w` and `w` decodes to
`i`, the step is `exec i`, with the turn taken off the agenda: at once where `READY = 1`, else after the wait for it; a
block that hangs is waited for and the word is not written. That a program line is one turn which waits and runs its
command to the end is the model's choice (entry 1 of the log), after 30_encoding.md R86. -/
def Obligations.StepRunsDecodedInstruction : Prop :=
  ∀ (s : State) (w : Word) (i : Instr) (r : List Turn),
    s.agenda = .host (.issue w) :: r → decode w = .ok i →
    (s.ready = true → step s = exec i { s with agenda := r }) ∧
    ((waitReady { s with agenda := r }).ready = true → step s = exec i (waitReady { s with agenda := r })) ∧
    ((waitReady { s with agenda := r }).ready = false → step s = .next (waitReady { s with agenda := r }))

/-- 30_encoding.md R86: "waiting for `READY == 1` before each write". Under `NOACK_POLICY = ABORT`, where every command
ends (70_reset_and_hazards.md R219), a program line taken in the middle of a command first lets the block's agents bring
that command to its end and then runs its own: nothing is dropped and there is no overrun. That the line is one turn is
the model's choice (entry 1 of the log). -/
def Obligations.ProgramLineWaitsForReady : Prop :=
  ∀ (s : State) (w : Word) (i : Instr) (r : List Turn), Inv s → s.params.noack = .abort →
    s.agenda = .host (.issue w) :: r → decode w = .ok i →
    ∃ (l : List Agent) (t : State),
      (runAgents l { s with agenda := r }).ready = true ∧ step s = exec i (runAgents l { s with agenda := r }) ∧
        step s = .next t ∧ t.agenda = r ∧ t.ovr = s.ovr

/-- 60_exceptions.md R183, 30_encoding.md R81: a word written while `READY == 0`, legal or not, sets `OVR` and changes
nothing else, and the command in progress is not disturbed. -/
def Obligations.OverrunSetsOvrAlone : Prop :=
  ∀ (s : State) (w : Word) (r : List Turn), s.ready = false → s.agenda = .host (.write 0 w) :: r →
    step s = .next { s with agenda := r, ovr := true }

/-- 60_exceptions.md R182, 30_encoding.md R83: an illegal word written while `READY == 1` sets `ILLCMD` and changes
nothing else. -/
def Obligations.IllegalWordSetsIllcmdAlone : Prop :=
  ∀ (s : State) (w : Word) (r : List Turn), s.ready = true → legal w = false →
    (s.agenda = .host (.write 0 w) :: r ∨ s.agenda = .host (.issue w) :: r) →
    step s = .next { s with agenda := r, illcmd := true }

/-- 30_encoding.md R81, the third branch: a primitive written to `CMD` while `READY == 1` is accepted, in that one step:
`OP <- w.opc; OPDATA <- w.data; PH <- 0`, and `READY` is 0 after it. -/
def Obligations.PrimitiveAccepted : Prop :=
  ∀ (s : State) (i : Instr) (p : Prim) (r : List Turn), s.ready = true → primOf i = some p →
    s.agenda = .host (.write 0 (encode i)) :: r →
    ∃ t, step s = .next t ∧ t = { s with agenda := r, op := some p, opdata := i.data, ph := .p0 } ∧
      opCode t.op = i.opc ∧ t.ready = false

/-- 41_transaction_sequencer.md R140: a transaction written to `CMD` while `READY == 1` is accepted if `BUSPH` is `FREE`
and clears the last outcome; else it is refused with `PROTO` and nothing else changes. -/
def Obligations.TransactionAcceptance : Prop :=
  ∀ (s : State) (k : Kind) (r : List Turn), s.ready = true →
    s.agenda = .host (.write 0 (encode k.command)) :: r →
    (s.busph = .free →
      step s = .next { s with agenda := r, kind := k, tstat := .none, errstep := 0, seqStep := 1 }) ∧
    (s.busph ≠ .free → step s = .next { s with agenda := r, proto := true })

/-! ## The phases of a primitive, and the Bus engine -/

/-- 40_bus_primitives.md R101 to R108, phase 0 of a legal primitive: the request that is set, and nothing else. -/
def Obligations.PhaseZeroSetsTheRequest : Prop :=
  ∀ s : State, s.ph = .p0 →
    (s.op = some .start → s.busph = .free → executorStep s = { s with sen := true, ph := .p1 }) ∧
    (s.op = some .restart → s.busph = .owned → executorStep s = { s with rsen := true, ph := .p1 }) ∧
    (s.op = some .stop → s.busph = .owned → executorStep s = { s with pen := true, ph := .p1 }) ∧
    (s.op = some .ack → s.busph = .ackOwed → executorStep s = { s with ackdt := false, acken := true, ph := .p1 }) ∧
    (s.op = some .nack → s.busph = .ackOwed → executorStep s = { s with ackdt := true, acken := true, ph := .p1 }) ∧
    (s.op = some .writeByte → s.busph = .owned →
      executorStep s = { s with buf := s.opdata, bf := true, txstat := .shift, ph := .p1 }) ∧
    (s.op = some .readByte → s.busph = .owned → executorStep s = { s with rcen := true, ph := .p1 })

/-- 40_bus_primitives.md R100, R118: phase 0 of a primitive the bus phase does not admit sets `FAULT.PROTO` and retires
in the same step; outside a transaction nothing else changes. -/
def Obligations.PhaseZeroRefusesByTheTable : Prop :=
  ∀ (s : State) (p : Prim), s.op = some p → s.ph = .p0 → s.seqStep = 0 → legalIn p s.busph = false →
    executorStep s = { s with proto := true, op := none, ph := .p0 }

/-- 00_scope.md R7: a poll whose condition is false changes no state. -/
def Obligations.FailedPollIsAStutter : Prop :=
  ∀ s : State,
    (s.ph = .p1 →
      (s.op = some .start → s.sen = true → executorStep s = s) ∧
      (s.op = some .restart → s.rsen = true → executorStep s = s) ∧
      (s.op = some .stop → s.pen = true → executorStep s = s) ∧
      (s.op = some .ack → s.acken = true → executorStep s = s) ∧
      (s.op = some .nack → s.acken = true → executorStep s = s) ∧
      (s.op = some .writeByte → s.bf = true → executorStep s = s) ∧
      (s.op = some .readByte → s.bf = false → executorStep s = s)) ∧
    (s.ph = .p2 → s.busIdle = false → s.op = some .writeByte ∨ s.op = some .readByte → executorStep s = s) ∧
    (s.ph = .p0 → s.busIdle = false → s.op = some .waitIdle → executorStep s = s)

/-- 00_scope.md R6, 41_transaction_sequencer.md R144: a `READ_BYTE` that retires writes `RXDATA`, clears `BF`, `OP` and
`PH`, and in a transaction's step 9, 11 or 13 copies the byte to `MSB`, `LSB` or `CHK` in the same step. -/
def Obligations.ReadByteRetires : Prop :=
  ∀ s : State, s.op = some .readByte → s.ph = .p2 → s.busy = false →
    (s.seqStep = 0 → executorStep s = { s with rxdata := s.buf, bf := false, op := none, ph := .p0 }) ∧
    (s.seqStep = 9 →
      executorStep s = { s with rxdata := s.buf, bf := false, op := none, ph := .p0, msb := s.buf, seqStep := 10 }) ∧
    (s.seqStep = 11 →
      executorStep s = { s with rxdata := s.buf, bf := false, op := none, ph := .p0, lsb := s.buf, seqStep := 12 }) ∧
    (s.seqStep = 13 →
      executorStep s = { s with rxdata := s.buf, bf := false, op := none, ph := .p0, chk := s.buf, seqStep := 14 })

/-- 41_transaction_sequencer.md R143: the dispatch at each step of the microprogram that runs a primitive: `OP`,
`OPDATA` and `PH`, with `SEQ_STEP` unchanged. -/
def Obligations.MicroprogramDispatches : Prop :=
  ∀ s : State, s.op = none →
    (s.seqStep = 1 → executorStep s = { s with op := some .start, opdata := 0, ph := .p0 }) ∧
    (s.seqStep = 2 → executorStep s = { s with op := some .writeByte, opdata := 0x80, ph := .p0 }) ∧
    (s.seqStep = 4 → s.kind = .temperature →
      executorStep s = { s with op := some .writeByte, opdata := 0xE3, ph := .p0 }) ∧
    (s.seqStep = 4 → s.kind = .humidity →
      executorStep s = { s with op := some .writeByte, opdata := 0xE5, ph := .p0 }) ∧
    (s.seqStep = 6 → executorStep s = { s with op := some .restart, opdata := 0, ph := .p0 }) ∧
    (s.seqStep = 7 → executorStep s = { s with op := some .writeByte, opdata := 0x81, ph := .p0 }) ∧
    (s.seqStep = 9 ∨ s.seqStep = 11 ∨ s.seqStep = 13 →
      executorStep s = { s with op := some .readByte, opdata := 0, ph := .p0 }) ∧
    (s.seqStep = 10 ∨ s.seqStep = 12 → executorStep s = { s with op := some .ack, opdata := 0, ph := .p0 }) ∧
    (s.seqStep = 14 → executorStep s = { s with op := some .nack, opdata := 0, ph := .p0 }) ∧
    (s.seqStep = 15 ∨ s.seqStep = 17 → executorStep s = { s with op := some .stop, opdata := 0, ph := .p0 })

/-- 41_transaction_sequencer.md R145 to R148: the sequencer's single steps `CHKACK` (R145, and under `HANG` R148), `FAIL`
(R146) and `DONE` (R147). -/
def Obligations.SequencerSingleSteps : Prop :=
  ∀ s : State, s.op = none →
    (∀ k n : Fin 19, (k = 3 ∧ n = 4) ∨ (k = 5 ∧ n = 6) ∨ (k = 8 ∧ n = 9) → s.seqStep = k →
      (s.ackstat = false → executorStep s = { s with seqStep := n }) ∧
      (s.ackstat = true → s.params.noack = .abort → executorStep s = { s with errstep := k, seqStep := 17 }) ∧
      (s.ackstat = true → s.params.noack = .hang → executorStep s = s)) ∧
    (s.seqStep = 16 →
      executorStep s =
        { s with
          raw := assembleRaw s.msb s.lsb,
          result := decodeBits s.params.fmt s.kind (assembleRaw s.msb s.lsb), tstat := .ok, seqStep := 0 }) ∧
    (s.seqStep = 18 → executorStep s = { s with tstat := .noack, seqStep := 0 })

/-- 40_bus_primitives.md R110 to R116: each engine step's enabling condition and its whole effect. That the device's
answers are drawn from the scripts `acks` and `bytes`, and past their end are free values, is the model's choice (entry 3
of the log). -/
def Obligations.EngineStepsAsRuled : Prop :=
  ∀ s : State, Inv s →
    (s.sen = true → engineStep s = { s with trace := s.trace ++ [.start], busph := .owned, sen := false }) ∧
    (s.rsen = true → engineStep s = { s with trace := s.trace ++ [.restart], rsen := false }) ∧
    (s.pen = true → engineStep s = { s with trace := s.trace ++ [.stop], busph := .free, pen := false }) ∧
    (s.acken = true →
      engineStep s =
        { s with trace := s.trace ++ [if s.ackdt then .nack else .ack], busph := .owned, acken := false }) ∧
    (s.txstat = .shift → engineStep s = { s with bf := false, txstat := .ackWait }) ∧
    (s.txstat = .ackWait →
      engineStep s =
        { s with
          ackstat := s.nextAck s.buf, acks := s.acks.tail, txstat := .idle,
          trace := s.trace ++ [.wrote s.buf (s.nextAck s.buf)] }) ∧
    (s.rcen = true →
      engineStep s =
        { s with
          buf := s.nextByte, bytes := s.bytes.tail, bf := true, busph := .ackOwed, rcen := false,
          trace := s.trace ++ [.got s.nextByte] })

/-- 40_bus_primitives.md R117: an engine step is enabled exactly when `BUSY`; and once enabled it stays enabled under a
step of the Executor and under anything the Host does short of reset and of running a whole command. -/
def Obligations.EngineStepStaysEnabled : Prop :=
  ∀ s : State, Inv s →
    (Enabled .engine s ↔ s.busy = true) ∧
    (s.busy = true → (executorStep s).busy = true ∧ ∀ n w, (writeReg n w s).busy = true ∧ (hostRead n s).busy = true)

/-- 10_state.md R21, R25, R28, 20_memory.md R67: a step of the Executor clears no request flag, and leaves `BUSPH`,
`ACKSTAT` and `TRACE` alone; a step of the Bus engine sets no request flag. -/
def Obligations.WhoWritesThePeripheral : Prop :=
  ∀ s : State,
    ((executorStep s).busph = s.busph ∧ (executorStep s).ackstat = s.ackstat ∧ (executorStep s).trace = s.trace) ∧
    ((s.sen = true → (executorStep s).sen = true) ∧ (s.rsen = true → (executorStep s).rsen = true) ∧
      (s.pen = true → (executorStep s).pen = true) ∧ (s.rcen = true → (executorStep s).rcen = true) ∧
      (s.acken = true → (executorStep s).acken = true)) ∧
    (((engineStep s).sen = true → s.sen = true) ∧ ((engineStep s).rsen = true → s.rsen = true) ∧
      ((engineStep s).pen = true → s.pen = true) ∧ ((engineStep s).rcen = true → s.rcen = true) ∧
      ((engineStep s).acken = true → s.acken = true))

/-! ## The primitives as whole commands (40_bus_primitives.md R119) -/

/-- `START` on a free bus (R101, R110, R119): `S` on the bus, `BUSPH = OWNED`, nothing else but `OPDATA`. -/
def Obligations.StartCompletes : Prop :=
  ∀ s : State, Idle s → s.busph = .free →
    exec .start s = .next { s with trace := s.trace ++ [.start], busph := .owned, opdata := 0 }

/-- `RESTART` on an owned bus (R102, R111, R119). -/
def Obligations.RestartCompletes : Prop :=
  ∀ s : State, Idle s → s.busph = .owned →
    exec .restart s = .next { s with trace := s.trace ++ [.restart], opdata := 0 }

/-- `STOP` on an owned bus (R103, R112, R119). -/
def Obligations.StopCompletes : Prop :=
  ∀ s : State, Idle s → s.busph = .owned →
    exec .stop s = .next { s with trace := s.trace ++ [.stop], busph := .free, opdata := 0 }

/-- `ACK` and `NACK` with an acknowledge bit owed (R104, R105, R113, R119): `A` or `N`, and `ACKDT` kept as written. -/
def Obligations.AckAndNackComplete : Prop :=
  ∀ s : State, Idle s → s.busph = .ackOwed →
    exec .ack s = .next { s with trace := s.trace ++ [.ack], busph := .owned, ackdt := false, opdata := 0 } ∧
    exec .nack s = .next { s with trace := s.trace ++ [.nack], busph := .owned, ackdt := true, opdata := 0 }

/-- `WAIT_IDLE` in every bus phase (R106, R119): no event and no fault. -/
def Obligations.WaitIdleCompletes : Prop :=
  ∀ s : State, Idle s → exec .waitIdle s = .next { s with opdata := 0 }

/-- `WRITE_BYTE v` on an owned bus (R107, R114, R115, R119): `W(v, a)` for the device's answer `a`, whichever it is. -/
def Obligations.WriteByteCompletes : Prop :=
  ∀ (s : State) (v : Byte), Idle s → s.busph = .owned →
    exec (.writeByte v) s =
      .next { s with
        trace := s.trace ++ [.wrote v (s.nextAck v)], buf := v, ackstat := s.nextAck v, acks := s.acks.tail, opdata := v }

/-- `READ_BYTE` on an owned bus (R108, R116, R119): `R(b)` for the byte `b` the device sends, and `b` in `RXDATA`. -/
def Obligations.ReadByteCompletes : Prop :=
  ∀ s : State, Idle s → s.busph = .owned →
    exec .readByte s =
      .next { s with
        trace := s.trace ++ [.got s.nextByte], busph := .ackOwed, buf := s.nextByte, rxdata := s.nextByte,
        bytes := s.bytes.tail, opdata := 0 }

/-- 60_exceptions.md R184, 40_bus_primitives.md R118: a command the bus phase does not admit sets `FAULT.PROTO`; no bus
event, and every other register as before, but that a primitive's data byte was put in `OPDATA` when it was accepted
(30_encoding.md R81). -/
def Obligations.IllegalPhaseSetsProto : Prop :=
  ∀ (s : State) (i : Instr), Idle s →
    (∀ p, primOf i = some p → legalIn p s.busph = false →
      exec i s = .next { s with proto := true, opdata := i.data }) ∧
    (∀ k, kindOf i = some k → s.busph ≠ .free → exec i s = .next { s with proto := true })

/-- 40_bus_primitives.md R118, the table itself, cell by cell against the word `PROTO`. -/
def Obligations.LegalityTable : Prop :=
  ∀ (p : Prim) (b : BusPhase),
    legalIn p b = true ↔
      (p = .start ∧ b = .free) ∨ (p = .restart ∧ b = .owned) ∨ (p = .stop ∧ b = .owned) ∨
      (p = .ack ∧ b = .ackOwed) ∨ (p = .nack ∧ b = .ackOwed) ∨ p = .waitIdle ∨
      (p = .writeByte ∧ b = .owned) ∨ (p = .readByte ∧ b = .owned)

/-- The frame of the eight primitives as commands (40_bus_primitives.md R100 to R108, 10_state.md R33 to R38): in every
state a run reaches, whether the command completes, is refused or overruns, no sample register, no transaction status,
no `ILLCMD` and no parameter changes, at most one bus event is appended, and a register changes only by the primitive
that is said to write it: `BUSPH` by those whose bus event R110, R112, R113 or R116 gives it a new value. An overrun sets
`OVR` alone; a command accepted leaves `OVR` and puts its data byte in `OPDATA`; `PROTO` is set exactly by a refusal
(R118), which changes nothing else. -/
def Obligations.PrimitiveFrame : Prop :=
  ∀ (s t : State) (i : Instr) (p : Prim), Inv s → primOf i = some p → exec i s = .next t →
    (t.msb = s.msb ∧ t.lsb = s.lsb ∧ t.chk = s.chk ∧ t.raw = s.raw ∧ t.result = s.result) ∧
    (t.kind = s.kind ∧ t.tstat = s.tstat ∧ t.errstep = s.errstep ∧ t.seqStep = s.seqStep) ∧
    (t.illcmd = s.illcmd ∧ t.params = s.params ∧ t.agenda = s.agenda ∧ t.tick = s.tick ∧ t.hostRd = s.hostRd) ∧
    (t.op = s.op ∧ t.ph = s.ph ∧ t.busy = s.busy ∧ t.bf = s.bf) ∧
    (t.trace = s.trace ∨ ∃ e, t.trace = s.trace ++ [e]) ∧
    (p ≠ .writeByte → t.ackstat = s.ackstat ∧ t.acks = s.acks) ∧
    (p ≠ .readByte → t.rxdata = s.rxdata ∧ t.bytes = s.bytes) ∧
    (p ≠ .writeByte → p ≠ .readByte → t.buf = s.buf) ∧
    (p ≠ .ack → p ≠ .nack → t.ackdt = s.ackdt) ∧
    (p = .restart ∨ p = .waitIdle ∨ p = .writeByte → t.busph = s.busph) ∧
    (s.ready = false → t = { s with ovr := true }) ∧
    (s.ready = true → t.ovr = s.ovr ∧ t.opdata = i.data ∧
      (legalIn p s.busph = true → t.proto = s.proto) ∧
      (legalIn p s.busph = false → t = { s with proto := true, opdata := i.data }))

/-! ## The transactions (41_transaction_sequencer.md) -/

/-- R151, last row, for both transactions: with the three writes acknowledged, the twelve events, the three bytes, the
raw sample and its decode, `TSTAT = 1`, and everything else as it was. -/
def Obligations.TransactionSucceeds : Prop :=
  ∀ (s : State) (k : Kind) (m l c : Byte) (as : List Bool) (bs : List Byte),
    Idle s → s.busph = .free → s.acks = false :: false :: false :: as → s.bytes = m :: l :: c :: bs →
    exec k.command s =
      .next { s with
        trace := s.trace ++ successEvents k m l c, acks := as, bytes := bs,
        kind := k, tstat := .ok, errstep := 0, ackstat := false, ackdt := true, buf := c, rxdata := c, opdata := 0,
        msb := m, lsb := l, chk := c,
        raw := assembleRaw m l, result := decodeBits s.params.fmt k (assembleRaw m l) }

/-- R151, rows 1 to 3, and R146: with `NOACK_POLICY = ABORT` a missing acknowledge aborts the transaction at that check,
a stop frees the bus, `ERRSTEP` says which check failed, and the data registers keep their values. -/
def Obligations.MissingAcknowledgeAborts : Prop :=
  ∀ (s : State) (k : Kind) (f : FailedCheck) (as : List Bool),
    Idle s → s.busph = .free → s.params.noack = .abort → s.acks = f.answers ++ as →
    exec k.command s =
      .next { s with
        trace := s.trace ++ f.events k ++ [.stop], acks := as, kind := k, tstat := .noack, errstep := f.errstep,
        ackstat := true, buf := f.lastByte k, opdata := 0 }

/-- R148: with `NOACK_POLICY = HANG` a missing acknowledge leaves the block hung at the check, `READY = 0`, the bus
`OWNED`, no stop sent. -/
def Obligations.MissingAcknowledgeHangs : Prop :=
  ∀ (s : State) (k : Kind) (f : FailedCheck) (as : List Bool),
    Idle s → s.busph = .free → s.params.noack = .hang → s.acks = f.answers ++ as →
    ∃ t, exec k.command s = .next t ∧ Hung t ∧ t.seqStep = f.errstep ∧ t.busph = .owned ∧ t.ackstat = true ∧
      t.trace = s.trace ++ f.events k

/-- R141, R150, R151, for whatever the device answers (20_memory.md R68): a transaction on a free bus ends, ready and
with the bus free, in exactly one of its two terminal states, with the events of one row of R151's table. On success
`RXDATA` is the last byte read, `CHK`; on an abort no data register has changed, `RXDATA` included. -/
def Obligations.TransactionEndsInOneOfTwoStates : Prop :=
  ∀ (s : State) (k : Kind), Idle s → s.busph = .free → s.params.noack = .abort →
    ∃ t, exec k.command s = .next t ∧ Idle t ∧ t.busph = .free ∧ t.kind = k ∧
      ((t.tstat = .ok ∧ t.errstep = 0 ∧
          t.trace = s.trace ++ successEvents k t.msb t.lsb t.chk ∧ t.raw = assembleRaw t.msb t.lsb ∧
          t.result = decodeBits s.params.fmt k t.raw ∧ t.rxdata = t.chk) ∨
        (∃ f : FailedCheck, t.tstat = .noack ∧ t.errstep = f.errstep ∧ t.trace = s.trace ++ f.events k ++ [.stop] ∧
          t.rxdata = s.rxdata ∧ t.msb = s.msb ∧ t.lsb = s.lsb ∧ t.chk = s.chk ∧ t.raw = s.raw ∧
          t.result = s.result))

/-- 30_encoding.md R87: the twelve primitive commands a transaction stands for, listed, and, issued one after another, put the same
events on the bus as the transaction's success path, and leave the sample registers and `TSTAT` alone. -/
def Obligations.MacroExpansionSameTrace : Prop :=
  ∀ (s : State) (k : Kind) (m l c : Byte) (as : List Bool) (bs : List Byte),
    Idle s → s.busph = .free → s.acks = false :: false :: false :: as → s.bytes = m :: l :: c :: bs →
    expansion k.command =
      [.start, .writeByte 0x80, .writeByte k.cmdByte, .restart, .writeByte 0x81, .readByte, .ack, .readByte, .ack,
       .readByte, .nack, .stop] ∧
    ∃ t u, runProgram (expansion k.command) s = some t ∧ exec k.command s = .next u ∧ t.trace = u.trace ∧
      t.msb = s.msb ∧ t.lsb = s.lsb ∧ t.chk = s.chk ∧ t.raw = s.raw ∧ t.result = s.result ∧ t.tstat = s.tstat

/-- 60_exceptions.md R186, 42_decode.md R170: the sample and its decode depend on the first two bytes only. Two
successful transactions of one kind that read the same first two bytes, from states with one format but otherwise
different, and with any checksum bytes, leave the same `RAW` and the same `RESULT`. -/
def Obligations.ResultIgnoresChecksumAndHistory : Prop :=
  ∀ (s s' t t' : State) (k : Kind) (m l c c' : Byte) (bs bs' : List Byte),
    Idle s → Idle s' → s.params.fmt = s'.params.fmt → s.bytes = m :: l :: c :: bs → s'.bytes = m :: l :: c' :: bs' →
    exec k.command s = .next t → exec k.command s' = .next t' → s.busph = .free → s'.busph = .free →
    t.tstat = .ok → t'.tstat = .ok → t.raw = t'.raw ∧ t.result = t'.result

/-- R144: inside a transaction no primitive is refused with `PROTO`. -/
def Obligations.MicroprogramNeverRefused : Prop :=
  ∀ (s : State) (a : Agent), Inv s → s.seqStep ≠ 0 → (agentStep a s).proto = s.proto

/-- R148: under `HANG` steps 17 and 18 are unreachable and `TSTAT` never becomes 2: a state under `HANG` that is not on
the abort path and has no `NOACK` outcome steps to such a state again. -/
def Obligations.HangNeverAborts : Prop :=
  ∀ s t : State, s.params.noack = .hang → (s.seqStep ≠ 17 ∧ s.seqStep ≠ 18 ∧ s.tstat ≠ .noack) → step s = .next t →
    t.params.noack = .hang ∧ t.seqStep ≠ 17 ∧ t.seqStep ≠ 18 ∧ t.tstat ≠ .noack

/-! ## Schedules -/

/-- 40_bus_primitives.md R119, 41_transaction_sequencer.md R151: "under any fair schedule". Whatever the order of the
agents' turns after a command is accepted, if they bring the block back to `READY = 1` they bring it to the very state
the command's meaning gives. -/
def Obligations.EveryScheduleEndsInTheMeaning : Prop :=
  ∀ (s : State) (i : Instr) (l : List Agent), Inv s → s.ready = true →
    (runAgents l (accept i s)).ready = true → exec i s = .next (runAgents l (accept i s))

/-- 40_bus_primitives.md R117, 70_reset_and_hazards.md R219: under `NOACK_POLICY = ABORT` and a weakly fair schedule
every accepted command ends. -/
def Obligations.FairSchedulesRetire : Prop :=
  ∀ (s : State) (i : Instr) (sched : Nat → Agent), Inv s → s.ready = true → s.params.noack = .abort →
    WeaklyFair sched (accept i s) → ∃ n, (stateAt sched (accept i s) n).ready = true

/-- 00_scope.md R9, 60_exceptions.md R185: the only hang of the block itself is R148's: a hung state a run reaches has
`NOACK_POLICY = HANG`, a missing acknowledge, and the sequencer at a check. -/
def Obligations.OnlyHangIsTheMissingAcknowledge : Prop :=
  ∀ s : State, Inv s → Hung s →
    s.params.noack = .hang ∧ s.ackstat = true ∧ s.op = none ∧ (s.seqStep = 3 ∨ s.seqStep = 5 ∨ s.seqStep = 8)

/-! ## The decode (42_decode.md) -/

/-- R152: the raw sample in numbers: it is below `0x10000`, its low two bits are 0, and `lsb`'s low two bits do not
matter to it. -/
def Obligations.RawSampleAssembly : Prop :=
  ∀ m l : Byte,
    (assembleRaw m l).toNat = 256 * m.toNat + (l.toNat - l.toNat % 4) ∧ assembleRaw m l &&& 3 = 0 ∧
      ∀ l' : Byte, l'.toNat / 4 = l.toNat / 4 → assembleRaw m l' = assembleRaw m l

/-- R171, R172: "each decimal constant is converted once to the nearest value of the format", so the two inexact ones are
these bit patterns in binary64 and binary32 whatever rule the operations round by, and the others are exact. -/
def Obligations.ConstantsAreNearest : Prop :=
  ∀ r : Rounding,
    (bitsOf .binary64 (constant { FloatFmt.binary64 with rounding := r } true 4685 100) = 0xC0476CCCCCCCCCCD ∧
      bitsOf .binary64 (constant { FloatFmt.binary64 with rounding := r } false 17572 100) = 0x4065F70A3D70A3D7 ∧
      bitsOf .binary32 (constant { FloatFmt.binary32 with rounding := r } true 4685 100) = 0xC23B6666 ∧
      bitsOf .binary32 (constant { FloatFmt.binary32 with rounding := r } false 17572 100) = 0x432FB852) ∧
    ∀ f ∈ [{ FloatFmt.binary64 with rounding := r }, { FloatFmt.binary32 with rounding := r }],
      ∀ c ∈ [(false, 65536), (false, 9), (false, 5), (false, 32), (true, 6), (false, 125)],
        valueOf (constant f c.1 c.2 1) = some (if c.1 then -(c.2 : Rat) else (c.2 : Rat))

/-- R174, R175, R176 and the tables of 95_test_vectors.md B4: decoded samples, bit for bit, in binary64 and binary32. -/
def Obligations.DecodeReferenceValues : Prop :=
  decodeBits .binary64 .temperature 0x652C = 0x40522AF1E147AE14 ∧
  decodeBits .binary64 .temperature 0x7C80 = 0x40595F97CED91686 ∧
  decodeBits .binary64 .humidity 0x652C = 0x4045B33E00000000 ∧
  decodeBits .binary32 .temperature 0x652C = 0x4291578F ∧
  decodeBits .binary32 .humidity 0xFFFC = 0x42EDFC18

/-- R176: in binary64 and binary32 the humidity is exact: it equals `-6 + 125 * RAW / 65536` with no rounding at all. -/
def Obligations.HumidityIsExact : Prop :=
  ∀ raw : Word,
    valueOf (decodeSample .binary64 .humidity raw) = some (humidityExact raw) ∧
    valueOf (decodeSample .binary32 .humidity raw) = some (humidityExact raw)

/-- R177, R178: in binary64 the temperature of every sample is a finite number within `2^-43` of the exact value of R177,
"a few units in the last place" of a magnitude below 512. The bound `2^-43` is the model's reading of that phrase. -/
def Obligations.TemperatureIsCloseToExact : Prop :=
  ∀ raw : Word, ∃ v, valueOf (decodeSample .binary64 .temperature raw) = some v ∧
    |v - fahrenheitExact raw| ≤ 1 / 2 ^ 43

/-! ## The Host's registers and reset -/

/-- 10_state.md R40: the register file, field by field, on the numbers the Host reads; `CMD` reads as 0, the numbers 12
and above read as 0, and a write to any number but 0 is ignored. -/
def Obligations.RegisterFileLayout : Prop :=
  ∀ s : State,
    readReg 1 s =
      s.ready.toNat + 2 * s.tstat.code.toNat + 8 * s.kind.code.toNat + 16 * s.bf.toNat + 32 * s.ackstat.toNat +
        64 * s.busy.toNat + 256 * s.txstat.code.toNat + 4096 * s.busph.code.toNat ∧
    readReg 2 s =
      s.sen.toNat + 2 * s.rsen.toNat + 4 * s.pen.toNat + 8 * s.rcen.toNat + 16 * s.acken.toNat + 32 * s.ackdt.toNat ∧
    readReg 3 s = s.illcmd.toNat + 2 * s.ovr.toNat + 4 * s.proto.toNat ∧
    readReg 4 s = s.seqStep.val + 256 * s.errstep.val ∧
    readReg 5 s = (opCode s.op).toNat + 16 * s.ph.code.toNat + 256 * s.opdata.toNat ∧
    readReg 6 s = s.rxdata.toNat ∧ readReg 7 s = s.msb.toNat ∧ readReg 8 s = s.lsb.toNat ∧
    readReg 9 s = s.chk.toNat ∧ readReg 10 s = s.raw.toNat ∧ readReg 11 s = s.result ∧
    readReg 0 s = 0 ∧ (∀ n, 12 ≤ n → readReg n s = 0) ∧ ∀ n w, n ≠ 0 → writeReg n w s = s

/-- 10_state.md R41, R42: a Host read changes no state of the block and hands the register's present value to the Host;
a Host write to any register number but 0 is ignored. That the value the Host has is kept in `hostRd` is the model's
choice (entry 11 of the log). -/
def Obligations.HostReadsAndIdleWrites : Prop :=
  ∀ (s : State) (n : Nat) (w : Word) (r : List Turn),
    (s.agenda = .host (.read n) :: r → step s = .next { s with agenda := r, hostRd := readReg n s }) ∧
    (n ≠ 0 → s.agenda = .host (.write n w) :: r → step s = .next { s with agenda := r })

/-- 10_state.md R44: the values the spec gives for reset, as the Host reads them (95_test_vectors.md V-H1), with `BUF`;
`TRACE` is empty at power-up and unchanged by reset. -/
def Obligations.ResetValues : Prop :=
  readReg 1 State.reset = 1 ∧ (∀ n, n ≠ 1 → readReg n State.reset = 0) ∧ State.reset.buf = 0 ∧
    State.reset.trace = [] ∧ Idle State.reset ∧ ∀ s, (resetBlock s).trace = s.trace

/-- 70_reset_and_hazards.md R210: reset, in any state, is one step that gives every register of R20 its value of R44 and
leaves `TRACE` as it was; after it the block accepts a command at once. -/
def Obligations.ResetAtAnyTime : Prop :=
  ∀ (s : State) (r : List Turn), s.agenda = .host .reset :: r →
    ∃ t, step s = .next t ∧ Idle t ∧ t.ready = true ∧ t.busph = .free ∧ t.trace = s.trace ∧ readReg 1 t = 1 ∧
      (∀ n, n ≠ 1 → readReg n t = 0) ∧ t.buf = 0

/-- 70_reset_and_hazards.md R211: after a reset in any state the recovery program `START`, `STOP` is legal and puts a
stop on the bus, with no fault recorded. -/
def Obligations.RecoveryAfterReset : Prop :=
  ∀ s : State,
    ∃ t, runProgram [.start, .stop] (resetBlock s) = some t ∧ t.trace = s.trace ++ [.start, .stop] ∧
      t.busph = .free ∧ readReg 3 t = 0 ∧ t.ready = true

/-! ## The whole machine -/

/-- The machine never stops: every step, from every state, gives a next state. That is the model's deduction (entry 13
of the log): 30_encoding.md R81 makes the decoder total, 60_exceptions.md R189 makes the faults status bits, and no rule
says that the block stops; neither rule says it outright. Whose turn a step is, and that a turn without an enabled step
is a stutter, is entry 2. -/
def Obligations.EveryStepGivesANextState : Prop :=
  ∀ s : State, ∃ t, step s = .next t

/-- The invariant of 10_state.md R43 holds at reset. -/
def Obligations.InvariantAtReset : Prop := Inv State.reset

/-- The invariant of 10_state.md R43 is kept by every step, whoever's turn it is and whatever the device answers. -/
def Obligations.StepKeepsInvariant : Prop :=
  ∀ s t : State, Inv s → step s = .next t → Inv t

/-- What R43 lists, items 1 to 8, follows from the invariant; where an enumeration leaves a value of item 8 no room it
needs no statement. -/
def Obligations.InvariantGivesR43 : Prop :=
  ∀ s : State, Inv s →
    owedCount s ≤ 1 ∧
    (s.op = none → s.sen = false ∧ s.rsen = false ∧ s.pen = false ∧ s.rcen = false ∧ s.acken = false ∧
      s.txstat = .idle ∧ s.bf = false ∧ s.ph = .p0 ∧ s.busy = false) ∧
    (s.seqStep ≠ 0 → s.ready = false) ∧
    (s.busph = .ackOwed → ∃ b, s.trace.getLast? = some (.got b)) ∧
    (s.txstat = .shift → s.bf = true) ∧ (s.txstat = .ackWait → s.bf = false) ∧
    s.raw.toNat % 4 = 0 ∧
    (s.tstat = .ok →
      s.raw = (s.msb ++ s.lsb) &&& 0xFFFC ∧ s.result = decodeBits s.params.fmt s.kind s.raw) ∧
    (s.errstep = 0 ∨ s.errstep = 3 ∨ s.errstep = 5 ∨ s.errstep = 8)

/-- 10_state.md R43 item 4, R28: `BUSPH` becomes `ACKOWED` only by an engine step that completes a receive, and leaves it
only by an engine step that drives the controller's acknowledge bit, to `OWNED`, or by a reset, to `FREE`
(70_reset_and_hazards.md R210). A Host's program line is many such steps taken as one (entry 1 of the log) and is left
out; every other step, whoever's turn it is, is meant. -/
def Obligations.AcknowledgeOwedFromReceiveToAnswer : Prop :=
  ∀ s t : State, Inv s → step s = .next t →
    (s.nextTurn = .host .reset → t.busph = .free) ∧
    (s.nextTurn ≠ .host .reset → (∀ w, s.nextTurn ≠ .host (.issue w)) →
      (s.busph ≠ .ackOwed → t.busph = .ackOwed → s.nextTurn = .engine ∧ s.rcen = true) ∧
      (s.busph = .ackOwed → t.busph ≠ .ackOwed → s.nextTurn = .engine ∧ s.acken = true ∧ t.busph = .owned))

/-- A run that is over is idle: with the invariant, `READY == 1` says all that R9 says of it. -/
def Obligations.ReadyMeansIdle : Prop :=
  ∀ s : State, Inv s → s.ready = true → Idle s

/-- 10_state.md R38, 60_exceptions.md R190: a fault bit that is set stays set in every step but a reset. -/
def Obligations.FaultsAreSticky : Prop :=
  ∀ s t : State, step s = .next t → s.nextTurn ≠ .host .reset →
    (s.illcmd = true → t.illcmd = true) ∧ (s.ovr = true → t.ovr = true) ∧ (s.proto = true → t.proto = true)

/-- 10_state.md R39, 70_reset_and_hazards.md R210: no step takes an event off `TRACE`, reset included. -/
def Obligations.TraceOnlyGrows : Prop :=
  ∀ s t : State, step s = .next t → ∃ es, t.trace = s.trace ++ es

/-- 10_state.md R45, 00_scope.md R4: no step changes a parameter. -/
def Obligations.ParametersAreFixed : Prop :=
  ∀ s t : State, step s = .next t → t.params = s.params

/-- 10_state.md R36, 70_reset_and_hazards.md R218: a step that is not the Host's running of a whole command and not a
reset writes `RAW`, `RESULT`, or makes `TSTAT` `OK`, only as the completion entry, step 16, and writes `MSB`, `LSB`,
`CHK` only in steps 9, 11, 13. -/
def Obligations.SampleWrittenOnlyWhereRuled : Prop :=
  ∀ (s t : State), step s = .next t → s.nextTurn ≠ .host .reset → (∀ w, s.nextTurn ≠ .host (.issue w)) →
    (s.seqStep ≠ 16 → t.raw = s.raw ∧ t.result = s.result ∧ (t.tstat = .ok → s.tstat = .ok)) ∧
    (s.seqStep ≠ 9 → t.msb = s.msb) ∧ (s.seqStep ≠ 11 → t.lsb = s.lsb) ∧ (s.seqStep ≠ 13 → t.chk = s.chk)
end

