-- ==== Sys2Proof/Laws/State.lean ====
section
/-!
SUPPORT. One lemma per field per named update of the state, each by unfolding it once, so that no later proof unfolds one.
-/
namespace Sys2Proof.Machine

/-! ## `emit` -/

@[simp] theorem emit_sen (e : BusEvent) (s : State) : (emit e s).sen = s.sen := rfl
@[simp] theorem emit_rsen (e : BusEvent) (s : State) : (emit e s).rsen = s.rsen := rfl
@[simp] theorem emit_pen (e : BusEvent) (s : State) : (emit e s).pen = s.pen := rfl
@[simp] theorem emit_rcen (e : BusEvent) (s : State) : (emit e s).rcen = s.rcen := rfl
@[simp] theorem emit_acken (e : BusEvent) (s : State) : (emit e s).acken = s.acken := rfl
@[simp] theorem emit_ackdt (e : BusEvent) (s : State) : (emit e s).ackdt = s.ackdt := rfl
@[simp] theorem emit_buf (e : BusEvent) (s : State) : (emit e s).buf = s.buf := rfl
@[simp] theorem emit_bf (e : BusEvent) (s : State) : (emit e s).bf = s.bf := rfl
@[simp] theorem emit_ackstat (e : BusEvent) (s : State) : (emit e s).ackstat = s.ackstat := rfl
@[simp] theorem emit_txstat (e : BusEvent) (s : State) : (emit e s).txstat = s.txstat := rfl
@[simp] theorem emit_busph (e : BusEvent) (s : State) : (emit e s).busph = s.busph := rfl
@[simp] theorem emit_op (e : BusEvent) (s : State) : (emit e s).op = s.op := rfl
@[simp] theorem emit_ph (e : BusEvent) (s : State) : (emit e s).ph = s.ph := rfl
@[simp] theorem emit_opdata (e : BusEvent) (s : State) : (emit e s).opdata = s.opdata := rfl
@[simp] theorem emit_seqStep (e : BusEvent) (s : State) : (emit e s).seqStep = s.seqStep := rfl
@[simp] theorem emit_kind (e : BusEvent) (s : State) : (emit e s).kind = s.kind := rfl
@[simp] theorem emit_rxdata (e : BusEvent) (s : State) : (emit e s).rxdata = s.rxdata := rfl
@[simp] theorem emit_msb (e : BusEvent) (s : State) : (emit e s).msb = s.msb := rfl
@[simp] theorem emit_lsb (e : BusEvent) (s : State) : (emit e s).lsb = s.lsb := rfl
@[simp] theorem emit_chk (e : BusEvent) (s : State) : (emit e s).chk = s.chk := rfl
@[simp] theorem emit_raw (e : BusEvent) (s : State) : (emit e s).raw = s.raw := rfl
@[simp] theorem emit_result (e : BusEvent) (s : State) : (emit e s).result = s.result := rfl
@[simp] theorem emit_tstat (e : BusEvent) (s : State) : (emit e s).tstat = s.tstat := rfl
@[simp] theorem emit_errstep (e : BusEvent) (s : State) : (emit e s).errstep = s.errstep := rfl
@[simp] theorem emit_illcmd (e : BusEvent) (s : State) : (emit e s).illcmd = s.illcmd := rfl
@[simp] theorem emit_ovr (e : BusEvent) (s : State) : (emit e s).ovr = s.ovr := rfl
@[simp] theorem emit_proto (e : BusEvent) (s : State) : (emit e s).proto = s.proto := rfl
@[simp] theorem emit_trace (e : BusEvent) (s : State) : (emit e s).trace = s.trace ++ [e] := rfl
@[simp] theorem emit_params (e : BusEvent) (s : State) : (emit e s).params = s.params := rfl
@[simp] theorem emit_acks (e : BusEvent) (s : State) : (emit e s).acks = s.acks := rfl
@[simp] theorem emit_bytes (e : BusEvent) (s : State) : (emit e s).bytes = s.bytes := rfl
@[simp] theorem emit_agenda (e : BusEvent) (s : State) : (emit e s).agenda = s.agenda := rfl
@[simp] theorem emit_tick (e : BusEvent) (s : State) : (emit e s).tick = s.tick := rfl
@[simp] theorem emit_hostRd (e : BusEvent) (s : State) : (emit e s).hostRd = s.hostRd := rfl

/-! ## `raiseFault .illcmd` -/

@[simp] theorem raiseFault_illcmd_sen (s : State) : (raiseFault .illcmd s).sen = s.sen := rfl
@[simp] theorem raiseFault_illcmd_rsen (s : State) : (raiseFault .illcmd s).rsen = s.rsen := rfl
@[simp] theorem raiseFault_illcmd_pen (s : State) : (raiseFault .illcmd s).pen = s.pen := rfl
@[simp] theorem raiseFault_illcmd_rcen (s : State) : (raiseFault .illcmd s).rcen = s.rcen := rfl
@[simp] theorem raiseFault_illcmd_acken (s : State) : (raiseFault .illcmd s).acken = s.acken := rfl
@[simp] theorem raiseFault_illcmd_ackdt (s : State) : (raiseFault .illcmd s).ackdt = s.ackdt := rfl
@[simp] theorem raiseFault_illcmd_buf (s : State) : (raiseFault .illcmd s).buf = s.buf := rfl
@[simp] theorem raiseFault_illcmd_bf (s : State) : (raiseFault .illcmd s).bf = s.bf := rfl
@[simp] theorem raiseFault_illcmd_ackstat (s : State) : (raiseFault .illcmd s).ackstat = s.ackstat := rfl
@[simp] theorem raiseFault_illcmd_txstat (s : State) : (raiseFault .illcmd s).txstat = s.txstat := rfl
@[simp] theorem raiseFault_illcmd_busph (s : State) : (raiseFault .illcmd s).busph = s.busph := rfl
@[simp] theorem raiseFault_illcmd_op (s : State) : (raiseFault .illcmd s).op = s.op := rfl
@[simp] theorem raiseFault_illcmd_ph (s : State) : (raiseFault .illcmd s).ph = s.ph := rfl
@[simp] theorem raiseFault_illcmd_opdata (s : State) : (raiseFault .illcmd s).opdata = s.opdata := rfl
@[simp] theorem raiseFault_illcmd_seqStep (s : State) : (raiseFault .illcmd s).seqStep = s.seqStep := rfl
@[simp] theorem raiseFault_illcmd_kind (s : State) : (raiseFault .illcmd s).kind = s.kind := rfl
@[simp] theorem raiseFault_illcmd_rxdata (s : State) : (raiseFault .illcmd s).rxdata = s.rxdata := rfl
@[simp] theorem raiseFault_illcmd_msb (s : State) : (raiseFault .illcmd s).msb = s.msb := rfl
@[simp] theorem raiseFault_illcmd_lsb (s : State) : (raiseFault .illcmd s).lsb = s.lsb := rfl
@[simp] theorem raiseFault_illcmd_chk (s : State) : (raiseFault .illcmd s).chk = s.chk := rfl
@[simp] theorem raiseFault_illcmd_raw (s : State) : (raiseFault .illcmd s).raw = s.raw := rfl
@[simp] theorem raiseFault_illcmd_result (s : State) : (raiseFault .illcmd s).result = s.result := rfl
@[simp] theorem raiseFault_illcmd_tstat (s : State) : (raiseFault .illcmd s).tstat = s.tstat := rfl
@[simp] theorem raiseFault_illcmd_errstep (s : State) : (raiseFault .illcmd s).errstep = s.errstep := rfl
@[simp] theorem raiseFault_illcmd_illcmd (s : State) : (raiseFault .illcmd s).illcmd = true := rfl
@[simp] theorem raiseFault_illcmd_ovr (s : State) : (raiseFault .illcmd s).ovr = s.ovr := rfl
@[simp] theorem raiseFault_illcmd_proto (s : State) : (raiseFault .illcmd s).proto = s.proto := rfl
@[simp] theorem raiseFault_illcmd_trace (s : State) : (raiseFault .illcmd s).trace = s.trace := rfl
@[simp] theorem raiseFault_illcmd_params (s : State) : (raiseFault .illcmd s).params = s.params := rfl
@[simp] theorem raiseFault_illcmd_acks (s : State) : (raiseFault .illcmd s).acks = s.acks := rfl
@[simp] theorem raiseFault_illcmd_bytes (s : State) : (raiseFault .illcmd s).bytes = s.bytes := rfl
@[simp] theorem raiseFault_illcmd_agenda (s : State) : (raiseFault .illcmd s).agenda = s.agenda := rfl
@[simp] theorem raiseFault_illcmd_tick (s : State) : (raiseFault .illcmd s).tick = s.tick := rfl
@[simp] theorem raiseFault_illcmd_hostRd (s : State) : (raiseFault .illcmd s).hostRd = s.hostRd := rfl

/-! ## `raiseFault .ovr` -/

@[simp] theorem raiseFault_ovr_sen (s : State) : (raiseFault .ovr s).sen = s.sen := rfl
@[simp] theorem raiseFault_ovr_rsen (s : State) : (raiseFault .ovr s).rsen = s.rsen := rfl
@[simp] theorem raiseFault_ovr_pen (s : State) : (raiseFault .ovr s).pen = s.pen := rfl
@[simp] theorem raiseFault_ovr_rcen (s : State) : (raiseFault .ovr s).rcen = s.rcen := rfl
@[simp] theorem raiseFault_ovr_acken (s : State) : (raiseFault .ovr s).acken = s.acken := rfl
@[simp] theorem raiseFault_ovr_ackdt (s : State) : (raiseFault .ovr s).ackdt = s.ackdt := rfl
@[simp] theorem raiseFault_ovr_buf (s : State) : (raiseFault .ovr s).buf = s.buf := rfl
@[simp] theorem raiseFault_ovr_bf (s : State) : (raiseFault .ovr s).bf = s.bf := rfl
@[simp] theorem raiseFault_ovr_ackstat (s : State) : (raiseFault .ovr s).ackstat = s.ackstat := rfl
@[simp] theorem raiseFault_ovr_txstat (s : State) : (raiseFault .ovr s).txstat = s.txstat := rfl
@[simp] theorem raiseFault_ovr_busph (s : State) : (raiseFault .ovr s).busph = s.busph := rfl
@[simp] theorem raiseFault_ovr_op (s : State) : (raiseFault .ovr s).op = s.op := rfl
@[simp] theorem raiseFault_ovr_ph (s : State) : (raiseFault .ovr s).ph = s.ph := rfl
@[simp] theorem raiseFault_ovr_opdata (s : State) : (raiseFault .ovr s).opdata = s.opdata := rfl
@[simp] theorem raiseFault_ovr_seqStep (s : State) : (raiseFault .ovr s).seqStep = s.seqStep := rfl
@[simp] theorem raiseFault_ovr_kind (s : State) : (raiseFault .ovr s).kind = s.kind := rfl
@[simp] theorem raiseFault_ovr_rxdata (s : State) : (raiseFault .ovr s).rxdata = s.rxdata := rfl
@[simp] theorem raiseFault_ovr_msb (s : State) : (raiseFault .ovr s).msb = s.msb := rfl
@[simp] theorem raiseFault_ovr_lsb (s : State) : (raiseFault .ovr s).lsb = s.lsb := rfl
@[simp] theorem raiseFault_ovr_chk (s : State) : (raiseFault .ovr s).chk = s.chk := rfl
@[simp] theorem raiseFault_ovr_raw (s : State) : (raiseFault .ovr s).raw = s.raw := rfl
@[simp] theorem raiseFault_ovr_result (s : State) : (raiseFault .ovr s).result = s.result := rfl
@[simp] theorem raiseFault_ovr_tstat (s : State) : (raiseFault .ovr s).tstat = s.tstat := rfl
@[simp] theorem raiseFault_ovr_errstep (s : State) : (raiseFault .ovr s).errstep = s.errstep := rfl
@[simp] theorem raiseFault_ovr_illcmd (s : State) : (raiseFault .ovr s).illcmd = s.illcmd := rfl
@[simp] theorem raiseFault_ovr_ovr (s : State) : (raiseFault .ovr s).ovr = true := rfl
@[simp] theorem raiseFault_ovr_proto (s : State) : (raiseFault .ovr s).proto = s.proto := rfl
@[simp] theorem raiseFault_ovr_trace (s : State) : (raiseFault .ovr s).trace = s.trace := rfl
@[simp] theorem raiseFault_ovr_params (s : State) : (raiseFault .ovr s).params = s.params := rfl
@[simp] theorem raiseFault_ovr_acks (s : State) : (raiseFault .ovr s).acks = s.acks := rfl
@[simp] theorem raiseFault_ovr_bytes (s : State) : (raiseFault .ovr s).bytes = s.bytes := rfl
@[simp] theorem raiseFault_ovr_agenda (s : State) : (raiseFault .ovr s).agenda = s.agenda := rfl
@[simp] theorem raiseFault_ovr_tick (s : State) : (raiseFault .ovr s).tick = s.tick := rfl
@[simp] theorem raiseFault_ovr_hostRd (s : State) : (raiseFault .ovr s).hostRd = s.hostRd := rfl

/-! ## `raiseFault .proto` -/

@[simp] theorem raiseFault_proto_sen (s : State) : (raiseFault .proto s).sen = s.sen := rfl
@[simp] theorem raiseFault_proto_rsen (s : State) : (raiseFault .proto s).rsen = s.rsen := rfl
@[simp] theorem raiseFault_proto_pen (s : State) : (raiseFault .proto s).pen = s.pen := rfl
@[simp] theorem raiseFault_proto_rcen (s : State) : (raiseFault .proto s).rcen = s.rcen := rfl
@[simp] theorem raiseFault_proto_acken (s : State) : (raiseFault .proto s).acken = s.acken := rfl
@[simp] theorem raiseFault_proto_ackdt (s : State) : (raiseFault .proto s).ackdt = s.ackdt := rfl
@[simp] theorem raiseFault_proto_buf (s : State) : (raiseFault .proto s).buf = s.buf := rfl
@[simp] theorem raiseFault_proto_bf (s : State) : (raiseFault .proto s).bf = s.bf := rfl
@[simp] theorem raiseFault_proto_ackstat (s : State) : (raiseFault .proto s).ackstat = s.ackstat := rfl
@[simp] theorem raiseFault_proto_txstat (s : State) : (raiseFault .proto s).txstat = s.txstat := rfl
@[simp] theorem raiseFault_proto_busph (s : State) : (raiseFault .proto s).busph = s.busph := rfl
@[simp] theorem raiseFault_proto_op (s : State) : (raiseFault .proto s).op = s.op := rfl
@[simp] theorem raiseFault_proto_ph (s : State) : (raiseFault .proto s).ph = s.ph := rfl
@[simp] theorem raiseFault_proto_opdata (s : State) : (raiseFault .proto s).opdata = s.opdata := rfl
@[simp] theorem raiseFault_proto_seqStep (s : State) : (raiseFault .proto s).seqStep = s.seqStep := rfl
@[simp] theorem raiseFault_proto_kind (s : State) : (raiseFault .proto s).kind = s.kind := rfl
@[simp] theorem raiseFault_proto_rxdata (s : State) : (raiseFault .proto s).rxdata = s.rxdata := rfl
@[simp] theorem raiseFault_proto_msb (s : State) : (raiseFault .proto s).msb = s.msb := rfl
@[simp] theorem raiseFault_proto_lsb (s : State) : (raiseFault .proto s).lsb = s.lsb := rfl
@[simp] theorem raiseFault_proto_chk (s : State) : (raiseFault .proto s).chk = s.chk := rfl
@[simp] theorem raiseFault_proto_raw (s : State) : (raiseFault .proto s).raw = s.raw := rfl
@[simp] theorem raiseFault_proto_result (s : State) : (raiseFault .proto s).result = s.result := rfl
@[simp] theorem raiseFault_proto_tstat (s : State) : (raiseFault .proto s).tstat = s.tstat := rfl
@[simp] theorem raiseFault_proto_errstep (s : State) : (raiseFault .proto s).errstep = s.errstep := rfl
@[simp] theorem raiseFault_proto_illcmd (s : State) : (raiseFault .proto s).illcmd = s.illcmd := rfl
@[simp] theorem raiseFault_proto_ovr (s : State) : (raiseFault .proto s).ovr = s.ovr := rfl
@[simp] theorem raiseFault_proto_proto (s : State) : (raiseFault .proto s).proto = true := rfl
@[simp] theorem raiseFault_proto_trace (s : State) : (raiseFault .proto s).trace = s.trace := rfl
@[simp] theorem raiseFault_proto_params (s : State) : (raiseFault .proto s).params = s.params := rfl
@[simp] theorem raiseFault_proto_acks (s : State) : (raiseFault .proto s).acks = s.acks := rfl
@[simp] theorem raiseFault_proto_bytes (s : State) : (raiseFault .proto s).bytes = s.bytes := rfl
@[simp] theorem raiseFault_proto_agenda (s : State) : (raiseFault .proto s).agenda = s.agenda := rfl
@[simp] theorem raiseFault_proto_tick (s : State) : (raiseFault .proto s).tick = s.tick := rfl
@[simp] theorem raiseFault_proto_hostRd (s : State) : (raiseFault .proto s).hostRd = s.hostRd := rfl

/-! ## `acceptPrim` -/

@[simp] theorem acceptPrim_sen (p : Prim) (d : Byte) (s : State) : (acceptPrim p d s).sen = s.sen := rfl
@[simp] theorem acceptPrim_rsen (p : Prim) (d : Byte) (s : State) : (acceptPrim p d s).rsen = s.rsen := rfl
@[simp] theorem acceptPrim_pen (p : Prim) (d : Byte) (s : State) : (acceptPrim p d s).pen = s.pen := rfl
@[simp] theorem acceptPrim_rcen (p : Prim) (d : Byte) (s : State) : (acceptPrim p d s).rcen = s.rcen := rfl
@[simp] theorem acceptPrim_acken (p : Prim) (d : Byte) (s : State) : (acceptPrim p d s).acken = s.acken := rfl
@[simp] theorem acceptPrim_ackdt (p : Prim) (d : Byte) (s : State) : (acceptPrim p d s).ackdt = s.ackdt := rfl
@[simp] theorem acceptPrim_buf (p : Prim) (d : Byte) (s : State) : (acceptPrim p d s).buf = s.buf := rfl
@[simp] theorem acceptPrim_bf (p : Prim) (d : Byte) (s : State) : (acceptPrim p d s).bf = s.bf := rfl
@[simp] theorem acceptPrim_ackstat (p : Prim) (d : Byte) (s : State) : (acceptPrim p d s).ackstat = s.ackstat := rfl
@[simp] theorem acceptPrim_txstat (p : Prim) (d : Byte) (s : State) : (acceptPrim p d s).txstat = s.txstat := rfl
@[simp] theorem acceptPrim_busph (p : Prim) (d : Byte) (s : State) : (acceptPrim p d s).busph = s.busph := rfl
@[simp] theorem acceptPrim_op (p : Prim) (d : Byte) (s : State) : (acceptPrim p d s).op = some p := rfl
@[simp] theorem acceptPrim_ph (p : Prim) (d : Byte) (s : State) : (acceptPrim p d s).ph = .p0 := rfl
@[simp] theorem acceptPrim_opdata (p : Prim) (d : Byte) (s : State) : (acceptPrim p d s).opdata = d := rfl
@[simp] theorem acceptPrim_seqStep (p : Prim) (d : Byte) (s : State) : (acceptPrim p d s).seqStep = s.seqStep := rfl
@[simp] theorem acceptPrim_kind (p : Prim) (d : Byte) (s : State) : (acceptPrim p d s).kind = s.kind := rfl
@[simp] theorem acceptPrim_rxdata (p : Prim) (d : Byte) (s : State) : (acceptPrim p d s).rxdata = s.rxdata := rfl
@[simp] theorem acceptPrim_msb (p : Prim) (d : Byte) (s : State) : (acceptPrim p d s).msb = s.msb := rfl
@[simp] theorem acceptPrim_lsb (p : Prim) (d : Byte) (s : State) : (acceptPrim p d s).lsb = s.lsb := rfl
@[simp] theorem acceptPrim_chk (p : Prim) (d : Byte) (s : State) : (acceptPrim p d s).chk = s.chk := rfl
@[simp] theorem acceptPrim_raw (p : Prim) (d : Byte) (s : State) : (acceptPrim p d s).raw = s.raw := rfl
@[simp] theorem acceptPrim_result (p : Prim) (d : Byte) (s : State) : (acceptPrim p d s).result = s.result := rfl
@[simp] theorem acceptPrim_tstat (p : Prim) (d : Byte) (s : State) : (acceptPrim p d s).tstat = s.tstat := rfl
@[simp] theorem acceptPrim_errstep (p : Prim) (d : Byte) (s : State) : (acceptPrim p d s).errstep = s.errstep := rfl
@[simp] theorem acceptPrim_illcmd (p : Prim) (d : Byte) (s : State) : (acceptPrim p d s).illcmd = s.illcmd := rfl
@[simp] theorem acceptPrim_ovr (p : Prim) (d : Byte) (s : State) : (acceptPrim p d s).ovr = s.ovr := rfl
@[simp] theorem acceptPrim_proto (p : Prim) (d : Byte) (s : State) : (acceptPrim p d s).proto = s.proto := rfl
@[simp] theorem acceptPrim_trace (p : Prim) (d : Byte) (s : State) : (acceptPrim p d s).trace = s.trace := rfl
@[simp] theorem acceptPrim_params (p : Prim) (d : Byte) (s : State) : (acceptPrim p d s).params = s.params := rfl
@[simp] theorem acceptPrim_acks (p : Prim) (d : Byte) (s : State) : (acceptPrim p d s).acks = s.acks := rfl
@[simp] theorem acceptPrim_bytes (p : Prim) (d : Byte) (s : State) : (acceptPrim p d s).bytes = s.bytes := rfl
@[simp] theorem acceptPrim_agenda (p : Prim) (d : Byte) (s : State) : (acceptPrim p d s).agenda = s.agenda := rfl
@[simp] theorem acceptPrim_tick (p : Prim) (d : Byte) (s : State) : (acceptPrim p d s).tick = s.tick := rfl
@[simp] theorem acceptPrim_hostRd (p : Prim) (d : Byte) (s : State) : (acceptPrim p d s).hostRd = s.hostRd := rfl

/-! ## `dispatch` -/

@[simp] theorem dispatch_sen (p : Prim) (d : Byte) (s : State) : (dispatch p d s).sen = s.sen := rfl
@[simp] theorem dispatch_rsen (p : Prim) (d : Byte) (s : State) : (dispatch p d s).rsen = s.rsen := rfl
@[simp] theorem dispatch_pen (p : Prim) (d : Byte) (s : State) : (dispatch p d s).pen = s.pen := rfl
@[simp] theorem dispatch_rcen (p : Prim) (d : Byte) (s : State) : (dispatch p d s).rcen = s.rcen := rfl
@[simp] theorem dispatch_acken (p : Prim) (d : Byte) (s : State) : (dispatch p d s).acken = s.acken := rfl
@[simp] theorem dispatch_ackdt (p : Prim) (d : Byte) (s : State) : (dispatch p d s).ackdt = s.ackdt := rfl
@[simp] theorem dispatch_buf (p : Prim) (d : Byte) (s : State) : (dispatch p d s).buf = s.buf := rfl
@[simp] theorem dispatch_bf (p : Prim) (d : Byte) (s : State) : (dispatch p d s).bf = s.bf := rfl
@[simp] theorem dispatch_ackstat (p : Prim) (d : Byte) (s : State) : (dispatch p d s).ackstat = s.ackstat := rfl
@[simp] theorem dispatch_txstat (p : Prim) (d : Byte) (s : State) : (dispatch p d s).txstat = s.txstat := rfl
@[simp] theorem dispatch_busph (p : Prim) (d : Byte) (s : State) : (dispatch p d s).busph = s.busph := rfl
@[simp] theorem dispatch_op (p : Prim) (d : Byte) (s : State) : (dispatch p d s).op = some p := rfl
@[simp] theorem dispatch_ph (p : Prim) (d : Byte) (s : State) : (dispatch p d s).ph = .p0 := rfl
@[simp] theorem dispatch_opdata (p : Prim) (d : Byte) (s : State) : (dispatch p d s).opdata = d := rfl
@[simp] theorem dispatch_seqStep (p : Prim) (d : Byte) (s : State) : (dispatch p d s).seqStep = s.seqStep := rfl
@[simp] theorem dispatch_kind (p : Prim) (d : Byte) (s : State) : (dispatch p d s).kind = s.kind := rfl
@[simp] theorem dispatch_rxdata (p : Prim) (d : Byte) (s : State) : (dispatch p d s).rxdata = s.rxdata := rfl
@[simp] theorem dispatch_msb (p : Prim) (d : Byte) (s : State) : (dispatch p d s).msb = s.msb := rfl
@[simp] theorem dispatch_lsb (p : Prim) (d : Byte) (s : State) : (dispatch p d s).lsb = s.lsb := rfl
@[simp] theorem dispatch_chk (p : Prim) (d : Byte) (s : State) : (dispatch p d s).chk = s.chk := rfl
@[simp] theorem dispatch_raw (p : Prim) (d : Byte) (s : State) : (dispatch p d s).raw = s.raw := rfl
@[simp] theorem dispatch_result (p : Prim) (d : Byte) (s : State) : (dispatch p d s).result = s.result := rfl
@[simp] theorem dispatch_tstat (p : Prim) (d : Byte) (s : State) : (dispatch p d s).tstat = s.tstat := rfl
@[simp] theorem dispatch_errstep (p : Prim) (d : Byte) (s : State) : (dispatch p d s).errstep = s.errstep := rfl
@[simp] theorem dispatch_illcmd (p : Prim) (d : Byte) (s : State) : (dispatch p d s).illcmd = s.illcmd := rfl
@[simp] theorem dispatch_ovr (p : Prim) (d : Byte) (s : State) : (dispatch p d s).ovr = s.ovr := rfl
@[simp] theorem dispatch_proto (p : Prim) (d : Byte) (s : State) : (dispatch p d s).proto = s.proto := rfl
@[simp] theorem dispatch_trace (p : Prim) (d : Byte) (s : State) : (dispatch p d s).trace = s.trace := rfl
@[simp] theorem dispatch_params (p : Prim) (d : Byte) (s : State) : (dispatch p d s).params = s.params := rfl
@[simp] theorem dispatch_acks (p : Prim) (d : Byte) (s : State) : (dispatch p d s).acks = s.acks := rfl
@[simp] theorem dispatch_bytes (p : Prim) (d : Byte) (s : State) : (dispatch p d s).bytes = s.bytes := rfl
@[simp] theorem dispatch_agenda (p : Prim) (d : Byte) (s : State) : (dispatch p d s).agenda = s.agenda := rfl
@[simp] theorem dispatch_tick (p : Prim) (d : Byte) (s : State) : (dispatch p d s).tick = s.tick := rfl
@[simp] theorem dispatch_hostRd (p : Prim) (d : Byte) (s : State) : (dispatch p d s).hostRd = s.hostRd := rfl

/-! ## `doPost`, but for the three registers a post-action may write -/

@[simp] theorem doPost_sen (p : Post) (s : State) : (doPost p s).sen = s.sen := by cases p <;> rfl
@[simp] theorem doPost_rsen (p : Post) (s : State) : (doPost p s).rsen = s.rsen := by cases p <;> rfl
@[simp] theorem doPost_pen (p : Post) (s : State) : (doPost p s).pen = s.pen := by cases p <;> rfl
@[simp] theorem doPost_rcen (p : Post) (s : State) : (doPost p s).rcen = s.rcen := by cases p <;> rfl
@[simp] theorem doPost_acken (p : Post) (s : State) : (doPost p s).acken = s.acken := by cases p <;> rfl
@[simp] theorem doPost_ackdt (p : Post) (s : State) : (doPost p s).ackdt = s.ackdt := by cases p <;> rfl
@[simp] theorem doPost_buf (p : Post) (s : State) : (doPost p s).buf = s.buf := by cases p <;> rfl
@[simp] theorem doPost_bf (p : Post) (s : State) : (doPost p s).bf = s.bf := by cases p <;> rfl
@[simp] theorem doPost_ackstat (p : Post) (s : State) : (doPost p s).ackstat = s.ackstat := by cases p <;> rfl
@[simp] theorem doPost_txstat (p : Post) (s : State) : (doPost p s).txstat = s.txstat := by cases p <;> rfl
@[simp] theorem doPost_busph (p : Post) (s : State) : (doPost p s).busph = s.busph := by cases p <;> rfl
@[simp] theorem doPost_op (p : Post) (s : State) : (doPost p s).op = s.op := by cases p <;> rfl
@[simp] theorem doPost_ph (p : Post) (s : State) : (doPost p s).ph = s.ph := by cases p <;> rfl
@[simp] theorem doPost_opdata (p : Post) (s : State) : (doPost p s).opdata = s.opdata := by cases p <;> rfl
@[simp] theorem doPost_seqStep (p : Post) (s : State) : (doPost p s).seqStep = s.seqStep := by cases p <;> rfl
@[simp] theorem doPost_kind (p : Post) (s : State) : (doPost p s).kind = s.kind := by cases p <;> rfl
@[simp] theorem doPost_rxdata (p : Post) (s : State) : (doPost p s).rxdata = s.rxdata := by cases p <;> rfl
@[simp] theorem doPost_raw (p : Post) (s : State) : (doPost p s).raw = s.raw := by cases p <;> rfl
@[simp] theorem doPost_result (p : Post) (s : State) : (doPost p s).result = s.result := by cases p <;> rfl
@[simp] theorem doPost_tstat (p : Post) (s : State) : (doPost p s).tstat = s.tstat := by cases p <;> rfl
@[simp] theorem doPost_errstep (p : Post) (s : State) : (doPost p s).errstep = s.errstep := by cases p <;> rfl
@[simp] theorem doPost_illcmd (p : Post) (s : State) : (doPost p s).illcmd = s.illcmd := by cases p <;> rfl
@[simp] theorem doPost_ovr (p : Post) (s : State) : (doPost p s).ovr = s.ovr := by cases p <;> rfl
@[simp] theorem doPost_proto (p : Post) (s : State) : (doPost p s).proto = s.proto := by cases p <;> rfl
@[simp] theorem doPost_trace (p : Post) (s : State) : (doPost p s).trace = s.trace := by cases p <;> rfl
@[simp] theorem doPost_params (p : Post) (s : State) : (doPost p s).params = s.params := by cases p <;> rfl
@[simp] theorem doPost_acks (p : Post) (s : State) : (doPost p s).acks = s.acks := by cases p <;> rfl
@[simp] theorem doPost_bytes (p : Post) (s : State) : (doPost p s).bytes = s.bytes := by cases p <;> rfl
@[simp] theorem doPost_agenda (p : Post) (s : State) : (doPost p s).agenda = s.agenda := by cases p <;> rfl
@[simp] theorem doPost_tick (p : Post) (s : State) : (doPost p s).tick = s.tick := by cases p <;> rfl
@[simp] theorem doPost_hostRd (p : Post) (s : State) : (doPost p s).hostRd = s.hostRd := by cases p <;> rfl

/-! ## `hostRead` -/

@[simp] theorem hostRead_sen (n : Nat) (s : State) : (hostRead n s).sen = s.sen := rfl
@[simp] theorem hostRead_rsen (n : Nat) (s : State) : (hostRead n s).rsen = s.rsen := rfl
@[simp] theorem hostRead_pen (n : Nat) (s : State) : (hostRead n s).pen = s.pen := rfl
@[simp] theorem hostRead_rcen (n : Nat) (s : State) : (hostRead n s).rcen = s.rcen := rfl
@[simp] theorem hostRead_acken (n : Nat) (s : State) : (hostRead n s).acken = s.acken := rfl
@[simp] theorem hostRead_ackdt (n : Nat) (s : State) : (hostRead n s).ackdt = s.ackdt := rfl
@[simp] theorem hostRead_buf (n : Nat) (s : State) : (hostRead n s).buf = s.buf := rfl
@[simp] theorem hostRead_bf (n : Nat) (s : State) : (hostRead n s).bf = s.bf := rfl
@[simp] theorem hostRead_ackstat (n : Nat) (s : State) : (hostRead n s).ackstat = s.ackstat := rfl
@[simp] theorem hostRead_txstat (n : Nat) (s : State) : (hostRead n s).txstat = s.txstat := rfl
@[simp] theorem hostRead_busph (n : Nat) (s : State) : (hostRead n s).busph = s.busph := rfl
@[simp] theorem hostRead_op (n : Nat) (s : State) : (hostRead n s).op = s.op := rfl
@[simp] theorem hostRead_ph (n : Nat) (s : State) : (hostRead n s).ph = s.ph := rfl
@[simp] theorem hostRead_opdata (n : Nat) (s : State) : (hostRead n s).opdata = s.opdata := rfl
@[simp] theorem hostRead_seqStep (n : Nat) (s : State) : (hostRead n s).seqStep = s.seqStep := rfl
@[simp] theorem hostRead_kind (n : Nat) (s : State) : (hostRead n s).kind = s.kind := rfl
@[simp] theorem hostRead_rxdata (n : Nat) (s : State) : (hostRead n s).rxdata = s.rxdata := rfl
@[simp] theorem hostRead_msb (n : Nat) (s : State) : (hostRead n s).msb = s.msb := rfl
@[simp] theorem hostRead_lsb (n : Nat) (s : State) : (hostRead n s).lsb = s.lsb := rfl
@[simp] theorem hostRead_chk (n : Nat) (s : State) : (hostRead n s).chk = s.chk := rfl
@[simp] theorem hostRead_raw (n : Nat) (s : State) : (hostRead n s).raw = s.raw := rfl
@[simp] theorem hostRead_result (n : Nat) (s : State) : (hostRead n s).result = s.result := rfl
@[simp] theorem hostRead_tstat (n : Nat) (s : State) : (hostRead n s).tstat = s.tstat := rfl
@[simp] theorem hostRead_errstep (n : Nat) (s : State) : (hostRead n s).errstep = s.errstep := rfl
@[simp] theorem hostRead_illcmd (n : Nat) (s : State) : (hostRead n s).illcmd = s.illcmd := rfl
@[simp] theorem hostRead_ovr (n : Nat) (s : State) : (hostRead n s).ovr = s.ovr := rfl
@[simp] theorem hostRead_proto (n : Nat) (s : State) : (hostRead n s).proto = s.proto := rfl
@[simp] theorem hostRead_trace (n : Nat) (s : State) : (hostRead n s).trace = s.trace := rfl
@[simp] theorem hostRead_params (n : Nat) (s : State) : (hostRead n s).params = s.params := rfl
@[simp] theorem hostRead_acks (n : Nat) (s : State) : (hostRead n s).acks = s.acks := rfl
@[simp] theorem hostRead_bytes (n : Nat) (s : State) : (hostRead n s).bytes = s.bytes := rfl
@[simp] theorem hostRead_agenda (n : Nat) (s : State) : (hostRead n s).agenda = s.agenda := rfl
@[simp] theorem hostRead_tick (n : Nat) (s : State) : (hostRead n s).tick = s.tick := rfl
@[simp] theorem hostRead_hostRd (n : Nat) (s : State) : (hostRead n s).hostRd = readReg n s := rfl

/-! ## `resetBlock` -/

@[simp] theorem resetBlock_sen (s : State) : (resetBlock s).sen = State.reset.sen := rfl
@[simp] theorem resetBlock_rsen (s : State) : (resetBlock s).rsen = State.reset.rsen := rfl
@[simp] theorem resetBlock_pen (s : State) : (resetBlock s).pen = State.reset.pen := rfl
@[simp] theorem resetBlock_rcen (s : State) : (resetBlock s).rcen = State.reset.rcen := rfl
@[simp] theorem resetBlock_acken (s : State) : (resetBlock s).acken = State.reset.acken := rfl
@[simp] theorem resetBlock_ackdt (s : State) : (resetBlock s).ackdt = State.reset.ackdt := rfl
@[simp] theorem resetBlock_buf (s : State) : (resetBlock s).buf = State.reset.buf := rfl
@[simp] theorem resetBlock_bf (s : State) : (resetBlock s).bf = State.reset.bf := rfl
@[simp] theorem resetBlock_ackstat (s : State) : (resetBlock s).ackstat = State.reset.ackstat := rfl
@[simp] theorem resetBlock_txstat (s : State) : (resetBlock s).txstat = State.reset.txstat := rfl
@[simp] theorem resetBlock_busph (s : State) : (resetBlock s).busph = State.reset.busph := rfl
@[simp] theorem resetBlock_op (s : State) : (resetBlock s).op = State.reset.op := rfl
@[simp] theorem resetBlock_ph (s : State) : (resetBlock s).ph = State.reset.ph := rfl
@[simp] theorem resetBlock_opdata (s : State) : (resetBlock s).opdata = State.reset.opdata := rfl
@[simp] theorem resetBlock_seqStep (s : State) : (resetBlock s).seqStep = State.reset.seqStep := rfl
@[simp] theorem resetBlock_kind (s : State) : (resetBlock s).kind = State.reset.kind := rfl
@[simp] theorem resetBlock_rxdata (s : State) : (resetBlock s).rxdata = State.reset.rxdata := rfl
@[simp] theorem resetBlock_msb (s : State) : (resetBlock s).msb = State.reset.msb := rfl
@[simp] theorem resetBlock_lsb (s : State) : (resetBlock s).lsb = State.reset.lsb := rfl
@[simp] theorem resetBlock_chk (s : State) : (resetBlock s).chk = State.reset.chk := rfl
@[simp] theorem resetBlock_raw (s : State) : (resetBlock s).raw = State.reset.raw := rfl
@[simp] theorem resetBlock_result (s : State) : (resetBlock s).result = State.reset.result := rfl
@[simp] theorem resetBlock_tstat (s : State) : (resetBlock s).tstat = State.reset.tstat := rfl
@[simp] theorem resetBlock_errstep (s : State) : (resetBlock s).errstep = State.reset.errstep := rfl
@[simp] theorem resetBlock_illcmd (s : State) : (resetBlock s).illcmd = State.reset.illcmd := rfl
@[simp] theorem resetBlock_ovr (s : State) : (resetBlock s).ovr = State.reset.ovr := rfl
@[simp] theorem resetBlock_proto (s : State) : (resetBlock s).proto = State.reset.proto := rfl
@[simp] theorem resetBlock_trace (s : State) : (resetBlock s).trace = s.trace := rfl
@[simp] theorem resetBlock_params (s : State) : (resetBlock s).params = s.params := rfl
@[simp] theorem resetBlock_acks (s : State) : (resetBlock s).acks = s.acks := rfl
@[simp] theorem resetBlock_bytes (s : State) : (resetBlock s).bytes = s.bytes := rfl
@[simp] theorem resetBlock_agenda (s : State) : (resetBlock s).agenda = s.agenda := rfl
@[simp] theorem resetBlock_tick (s : State) : (resetBlock s).tick = s.tick := rfl
@[simp] theorem resetBlock_hostRd (s : State) : (resetBlock s).hostRd = s.hostRd := rfl

/-! ## `State.reset` -/

@[simp] theorem reset_sen : State.reset.sen = false := rfl
@[simp] theorem reset_rsen : State.reset.rsen = false := rfl
@[simp] theorem reset_pen : State.reset.pen = false := rfl
@[simp] theorem reset_rcen : State.reset.rcen = false := rfl
@[simp] theorem reset_acken : State.reset.acken = false := rfl
@[simp] theorem reset_ackdt : State.reset.ackdt = false := rfl
@[simp] theorem reset_buf : State.reset.buf = 0 := rfl
@[simp] theorem reset_bf : State.reset.bf = false := rfl
@[simp] theorem reset_ackstat : State.reset.ackstat = false := rfl
@[simp] theorem reset_txstat : State.reset.txstat = .idle := rfl
@[simp] theorem reset_busph : State.reset.busph = .free := rfl
@[simp] theorem reset_op : State.reset.op = none := rfl
@[simp] theorem reset_ph : State.reset.ph = .p0 := rfl
@[simp] theorem reset_opdata : State.reset.opdata = 0 := rfl
@[simp] theorem reset_seqStep : State.reset.seqStep = 0 := rfl
@[simp] theorem reset_kind : State.reset.kind = .temperature := rfl
@[simp] theorem reset_rxdata : State.reset.rxdata = 0 := rfl
@[simp] theorem reset_msb : State.reset.msb = 0 := rfl
@[simp] theorem reset_lsb : State.reset.lsb = 0 := rfl
@[simp] theorem reset_chk : State.reset.chk = 0 := rfl
@[simp] theorem reset_raw : State.reset.raw = 0 := rfl
@[simp] theorem reset_result : State.reset.result = 0 := rfl
@[simp] theorem reset_tstat : State.reset.tstat = .none := rfl
@[simp] theorem reset_errstep : State.reset.errstep = 0 := rfl
@[simp] theorem reset_illcmd : State.reset.illcmd = false := rfl
@[simp] theorem reset_ovr : State.reset.ovr = false := rfl
@[simp] theorem reset_proto : State.reset.proto = false := rfl
@[simp] theorem reset_trace : State.reset.trace = [] := rfl
@[simp] theorem reset_params : State.reset.params = Params.thisHardware := rfl
@[simp] theorem reset_acks : State.reset.acks = [] := rfl
@[simp] theorem reset_bytes : State.reset.bytes = [] := rfl
@[simp] theorem reset_agenda : State.reset.agenda = [] := rfl
@[simp] theorem reset_tick : State.reset.tick = 0 := rfl
@[simp] theorem reset_hostRd : State.reset.hostRd = 0 := rfl

/-! ## `State.withFetchWord` -/

@[simp] theorem withFetchWord_sen (s : State) (n w : Nat) : (s.withFetchWord n w).sen = s.sen := rfl
@[simp] theorem withFetchWord_rsen (s : State) (n w : Nat) : (s.withFetchWord n w).rsen = s.rsen := rfl
@[simp] theorem withFetchWord_pen (s : State) (n w : Nat) : (s.withFetchWord n w).pen = s.pen := rfl
@[simp] theorem withFetchWord_rcen (s : State) (n w : Nat) : (s.withFetchWord n w).rcen = s.rcen := rfl
@[simp] theorem withFetchWord_acken (s : State) (n w : Nat) : (s.withFetchWord n w).acken = s.acken := rfl
@[simp] theorem withFetchWord_ackdt (s : State) (n w : Nat) : (s.withFetchWord n w).ackdt = s.ackdt := rfl
@[simp] theorem withFetchWord_buf (s : State) (n w : Nat) : (s.withFetchWord n w).buf = s.buf := rfl
@[simp] theorem withFetchWord_bf (s : State) (n w : Nat) : (s.withFetchWord n w).bf = s.bf := rfl
@[simp] theorem withFetchWord_ackstat (s : State) (n w : Nat) : (s.withFetchWord n w).ackstat = s.ackstat := rfl
@[simp] theorem withFetchWord_txstat (s : State) (n w : Nat) : (s.withFetchWord n w).txstat = s.txstat := rfl
@[simp] theorem withFetchWord_busph (s : State) (n w : Nat) : (s.withFetchWord n w).busph = s.busph := rfl
@[simp] theorem withFetchWord_op (s : State) (n w : Nat) : (s.withFetchWord n w).op = s.op := rfl
@[simp] theorem withFetchWord_ph (s : State) (n w : Nat) : (s.withFetchWord n w).ph = s.ph := rfl
@[simp] theorem withFetchWord_opdata (s : State) (n w : Nat) : (s.withFetchWord n w).opdata = s.opdata := rfl
@[simp] theorem withFetchWord_seqStep (s : State) (n w : Nat) : (s.withFetchWord n w).seqStep = s.seqStep := rfl
@[simp] theorem withFetchWord_kind (s : State) (n w : Nat) : (s.withFetchWord n w).kind = s.kind := rfl
@[simp] theorem withFetchWord_rxdata (s : State) (n w : Nat) : (s.withFetchWord n w).rxdata = s.rxdata := rfl
@[simp] theorem withFetchWord_msb (s : State) (n w : Nat) : (s.withFetchWord n w).msb = s.msb := rfl
@[simp] theorem withFetchWord_lsb (s : State) (n w : Nat) : (s.withFetchWord n w).lsb = s.lsb := rfl
@[simp] theorem withFetchWord_chk (s : State) (n w : Nat) : (s.withFetchWord n w).chk = s.chk := rfl
@[simp] theorem withFetchWord_raw (s : State) (n w : Nat) : (s.withFetchWord n w).raw = s.raw := rfl
@[simp] theorem withFetchWord_result (s : State) (n w : Nat) : (s.withFetchWord n w).result = s.result := rfl
@[simp] theorem withFetchWord_tstat (s : State) (n w : Nat) : (s.withFetchWord n w).tstat = s.tstat := rfl
@[simp] theorem withFetchWord_errstep (s : State) (n w : Nat) : (s.withFetchWord n w).errstep = s.errstep := rfl
@[simp] theorem withFetchWord_illcmd (s : State) (n w : Nat) : (s.withFetchWord n w).illcmd = s.illcmd := rfl
@[simp] theorem withFetchWord_ovr (s : State) (n w : Nat) : (s.withFetchWord n w).ovr = s.ovr := rfl
@[simp] theorem withFetchWord_proto (s : State) (n w : Nat) : (s.withFetchWord n w).proto = s.proto := rfl
@[simp] theorem withFetchWord_trace (s : State) (n w : Nat) : (s.withFetchWord n w).trace = s.trace := rfl
@[simp] theorem withFetchWord_params (s : State) (n w : Nat) : (s.withFetchWord n w).params = s.params := rfl
@[simp] theorem withFetchWord_acks (s : State) (n w : Nat) : (s.withFetchWord n w).acks = s.acks := rfl
@[simp] theorem withFetchWord_bytes (s : State) (n w : Nat) : (s.withFetchWord n w).bytes = s.bytes := rfl
@[simp] theorem withFetchWord_agenda (s : State) (n w : Nat) : (s.withFetchWord n w).agenda = .host (.issue (BitVec.ofNat 16 (w % 2 ^ n))) :: s.agenda := rfl
@[simp] theorem withFetchWord_tick (s : State) (n w : Nat) : (s.withFetchWord n w).tick = s.tick := rfl
@[simp] theorem withFetchWord_hostRd (s : State) (n w : Nat) : (s.withFetchWord n w).hostRd = s.hostRd := rfl

end Sys2Proof.Machine
end

