-- ==== Sys2Proof/Laws/Ops.lean ====
section
/-!
SUPPORT. What each shared operation does, said once: `READY`, acceptance, retirement, the microprogram's entries, and
the run of a command.
-/
namespace Sys2Proof.Machine

/-! ## `READY` and `BUSY` -/

theorem ready_iff (s : State) : s.ready = true ↔ s.op = none ∧ s.seqStep = 0 := by
  cases h : s.op <;> simp [State.ready, h]

theorem not_ready_of_op {s : State} {p : Prim} (h : s.op = some p) : s.ready = false := by
  simp [State.ready, h]

theorem not_ready_of_seqStep {s : State} (h : s.seqStep ≠ 0) : s.ready = false := by
  simp [State.ready, h]

theorem busy_eq_false_iff (s : State) :
    s.busy = false ↔
      s.sen = false ∧ s.rsen = false ∧ s.pen = false ∧ s.rcen = false ∧ s.acken = false ∧ s.txstat = .idle := by
  simp [State.busy, and_assoc]

/-- `READY` is read from `OP` and `SEQ_STEP` alone. -/
theorem ready_congr {s t : State} (ho : s.op = t.op) (hq : s.seqStep = t.seqStep) : s.ready = t.ready := by
  simp [State.ready, ho, hq]

@[simp] theorem ready_withAgenda (s : State) (r : List Turn) : ({ s with agenda := r } : State).ready = s.ready := rfl

theorem busIdle_iff (s : State) : s.busIdle = true ↔ s.busy = false := by
  constructor
  · simp only [State.busIdle, Bool.and_eq_true, Bool.not_eq_true']
    exact fun h => h.2
  · intro h
    have ht := ((busy_eq_false_iff s).1 h).2.2.2.2.2
    simp [State.busIdle, h, ht]

/-! ## The microprogram -/

@[simp] theorem microprogram_zero (k : Kind) : microprogram k 0 = .idle := rfl
@[simp] theorem microprogram_1 (k : Kind) : microprogram k 1 = .prim .start 0 .nothing 2 := rfl
@[simp] theorem microprogram_2 (k : Kind) : microprogram k 2 = .prim .writeByte 0x80 .nothing 3 := rfl
@[simp] theorem microprogram_3 (k : Kind) : microprogram k 3 = .chkAck 4 := rfl
@[simp] theorem microprogram_4 (k : Kind) : microprogram k 4 = .prim .writeByte k.cmdByte .nothing 5 := rfl
@[simp] theorem microprogram_5 (k : Kind) : microprogram k 5 = .chkAck 6 := rfl
@[simp] theorem microprogram_6 (k : Kind) : microprogram k 6 = .prim .restart 0 .nothing 7 := rfl
@[simp] theorem microprogram_7 (k : Kind) : microprogram k 7 = .prim .writeByte 0x81 .nothing 8 := rfl
@[simp] theorem microprogram_8 (k : Kind) : microprogram k 8 = .chkAck 9 := rfl
@[simp] theorem microprogram_9 (k : Kind) : microprogram k 9 = .prim .readByte 0 .msb 10 := rfl
@[simp] theorem microprogram_10 (k : Kind) : microprogram k 10 = .prim .ack 0 .nothing 11 := rfl
@[simp] theorem microprogram_11 (k : Kind) : microprogram k 11 = .prim .readByte 0 .lsb 12 := rfl
@[simp] theorem microprogram_12 (k : Kind) : microprogram k 12 = .prim .ack 0 .nothing 13 := rfl
@[simp] theorem microprogram_13 (k : Kind) : microprogram k 13 = .prim .readByte 0 .chk 14 := rfl
@[simp] theorem microprogram_14 (k : Kind) : microprogram k 14 = .prim .nack 0 .nothing 15 := rfl
@[simp] theorem microprogram_15 (k : Kind) : microprogram k 15 = .prim .stop 0 .nothing 16 := rfl
@[simp] theorem microprogram_16 (k : Kind) : microprogram k 16 = .done := rfl
@[simp] theorem microprogram_17 (k : Kind) : microprogram k 17 = .prim .stop 0 .nothing 18 := rfl
@[simp] theorem microprogram_18 (k : Kind) : microprogram k 18 = .fail := rfl

/-! ## Retirement -/

theorem retire_eq (s : State) : retire s = advanceSeq { s with op := none, ph := .p0 } := rfl

/-- Retirement outside a transaction. -/
theorem retire_outside {s : State} (h : s.seqStep = 0) : retire s = { s with op := none, ph := .p0 } := by
  simp [retire, advanceSeq, h]

/-- Retirement at a step of the microprogram that runs a primitive. -/
theorem retire_inside {s : State} {p : Prim} {d : Byte} {post : Post} {n : Fin 19}
    (h : microprogram s.kind s.seqStep = .prim p d post n) :
    retire s = { doPost post { s with op := none, ph := .p0 } with seqStep := n } := by
  simp [retire, advanceSeq, h]

/-- A refusal outside a transaction. -/
theorem refuse_outside {s : State} (h : s.seqStep = 0) :
    refuse s = { s with proto := true, op := none, ph := .p0 } := by
  rw [refuse, retire_outside (by simpa using h)]
  rfl

/-! ## Acceptance -/

theorem acceptTransaction_free {s : State} (k : Kind) (h : s.busph = .free) :
    acceptTransaction k s = { s with kind := k, tstat := .none, errstep := 0, seqStep := 1 } := by
  simp [acceptTransaction, h]

theorem acceptTransaction_refused {s : State} (k : Kind) (h : s.busph ≠ .free) :
    acceptTransaction k s = raiseFault .proto s := by
  simp [acceptTransaction, h]

/-! ## The run of a command -/

@[simp] theorem runToReady_zero (s : State) : runToReady 0 s = s := rfl

/-- A run stops where `READY = 1`. -/
theorem runToReady_of_ready {s : State} (h : s.ready = true) (n : Nat) : runToReady n s = s := by
  cases n <;> simp [runToReady, h]

/-- A run takes a step while `READY = 0`. -/
theorem runToReady_step {s : State} (h : s.ready = false) (n : Nat) :
    runToReady (n + 1) s = runToReady n (blockStep s) := by
  simp [runToReady, h]

theorem blockStep_engine {s : State} (h : s.busy = true) : blockStep s = engineStep s := by simp [blockStep, h]

theorem blockStep_executor {s : State} (h : s.busy = false) : blockStep s = executorStep s := by simp [blockStep, h]

/-- The agent whose step `blockStep` takes. -/
theorem blockStep_agent (s : State) : ∃ a, blockStep s = agentStep a s := by
  cases h : s.busy
  · exact ⟨.executor, blockStep_executor h⟩
  · exact ⟨.engine, blockStep_engine h⟩

/-- A property that every agent's step keeps is kept by a run. -/
theorem runToReady_keeps {P : State → Prop} (hstep : ∀ s a, P s → P (agentStep a s)) (n : Nat) {s : State} (h : P s) :
    P (runToReady n s) := by
  induction n generalizing s with
  | zero => exact h
  | succ n ih =>
    cases hr : s.ready
    · rw [runToReady_step hr]
      obtain ⟨a, ha⟩ := blockStep_agent s
      exact ih (ha ▸ hstep s a h)
    · rwa [runToReady_of_ready hr]

theorem issueCommand_busy {s : State} (acc : State → State) (h : s.ready = false) :
    issueCommand acc s = .next { s with ovr := true } := by
  simp [issueCommand, h, raiseFault]

theorem issueCommand_ready {s : State} (acc : State → State) (h : s.ready = true) :
    issueCommand acc s = .next (runToReady commandFuel (acc s)) := by
  simp [issueCommand, h]

/-! ## The Host's wait -/

/-- A Host that finds `READY = 1` does not wait. -/
theorem waitReady_of_ready {s : State} (h : s.ready = true) : waitReady s = s := runToReady_of_ready h _

/-- A property that every agent's step keeps is kept by the wait. -/
theorem waitReady_keeps {P : State → Prop} (hstep : ∀ s a, P s → P (agentStep a s)) {s : State} (h : P s) :
    P (waitReady s) := runToReady_keeps hstep _ h

theorem afterReady_of_ready {s : State} (act : State → Host.Outcome State Fault Refusal) (h : s.ready = true) :
    afterReady act s = act s := by
  simp [afterReady, waitReady_of_ready h, h]

theorem afterReady_waited {s : State} (act : State → Host.Outcome State Fault Refusal) (h : (waitReady s).ready = true) :
    afterReady act s = act (waitReady s) := by
  simp [afterReady, h]

theorem afterReady_hung {s : State} (act : State → Host.Outcome State Fault Refusal)
    (h : (waitReady s).ready = false) : afterReady act s = .next (waitReady s) := by
  simp [afterReady, h]

/-! ## The meanings and the program lines -/

/-- Every command's meaning is its issue: acceptance, and the run to `READY`. -/
theorem exec_eq_issueCommand (i : Instr) (s : State) : exec i s = issueCommand (accept i) s := by
  cases i <;> rfl

/-! ## Turns -/

@[simp] theorem nextTurn_cons {s : State} {t : Turn} {r : List Turn} (h : s.agenda = t :: r) : s.nextTurn = t := by
  simp [State.nextTurn, h]

theorem popTurn_cons {s : State} {t : Turn} {r : List Turn} (h : s.agenda = t :: r) :
    s.popTurn = { s with agenda := r } := by
  simp [State.popTurn, h]

/-- A step whose turn is on the agenda. -/
theorem step_cons {s : State} {t : Turn} {r : List Turn} (h : s.agenda = t :: r) :
    step s = takeTurn t { s with agenda := r } := by
  simp [step, nextTurn_cons h, popTurn_cons h]

/-- A program line with a command's word: the wait, then the command. -/
theorem takeTurn_issue {w : Word} {i : Instr} (h : decode w = .ok i) (s : State) :
    takeTurn (.host (.issue w)) s = afterReady (exec i) s := by
  simp [takeTurn, h]

/-- A program line with an illegal word: the wait, then `ILLCMD`. -/
theorem takeTurn_issue_illegal {w : Word} {e : DecodeError} (h : decode w = .error e) (s : State) :
    takeTurn (.host (.issue w)) s = afterReady (fun u => .next (issueIllegal u)) s := by
  simp [takeTurn, h]

end Sys2Proof.Machine
end

