-- ==== Sys2Proof/Laws/Agents.lean ====
section
/-!
SUPPORT. What a step of each agent can be: one lemma per agent and per primitive that lists every case, and the form every
retirement has, so that a proof about all steps cites these and unfolds none.
-/
namespace Sys2Proof.Machine

/-! ## Retirement -/

/-- Every retirement clears `OP` and `PH`, performs one post-action and sets `SEQ_STEP`; it does nothing else. -/
theorem retire_form (s : State) :
    ∃ post n, retire s = { doPost post { s with op := none, ph := .p0 } with seqStep := n } := by
  unfold retire advanceSeq
  split
  · exact ⟨_, _, rfl⟩
  · exact ⟨.nothing, _, rfl⟩
  · exact ⟨.nothing, _, rfl⟩
  · exact ⟨.nothing, _, rfl⟩
  · exact ⟨.nothing, s.seqStep, rfl⟩

/-- A refusal is a retirement with `FAULT.PROTO` set. -/
theorem refuse_form (s : State) :
    ∃ post n, refuse s = { doPost post { s with proto := true, op := none, ph := .p0 } with seqStep := n } :=
  retire_form (raiseFault .proto s)

/-! ## The Bus engine -/

/-- What a step of the Bus engine can be. -/
theorem engineStep_cases (s : State) :
    (s.sen = true ∧ engineStep s = engineStart s) ∨ (s.rsen = true ∧ engineStep s = engineRestart s) ∨
      (s.pen = true ∧ engineStep s = engineStop s) ∨ (s.acken = true ∧ engineStep s = engineAck s) ∨
      (s.txstat = .shift ∧ engineStep s = engineTxShift s) ∨ (s.txstat = .ackWait ∧ engineStep s = engineTxAck s) ∨
      (s.rcen = true ∧ engineStep s = engineRx s) ∨ (s.busy = false ∧ engineStep s = s) := by
  unfold engineStep
  split_ifs with h1 h2 h3 h4 h5 h6 h7
  · exact .inl ⟨h1, rfl⟩
  · exact .inr (.inl ⟨h2, rfl⟩)
  · exact .inr (.inr (.inl ⟨h3, rfl⟩))
  · exact .inr (.inr (.inr (.inl ⟨h4, rfl⟩)))
  · exact .inr (.inr (.inr (.inr (.inl ⟨h5, rfl⟩))))
  · exact .inr (.inr (.inr (.inr (.inr (.inl ⟨h6, rfl⟩)))))
  · exact .inr (.inr (.inr (.inr (.inr (.inr (.inl ⟨h7, rfl⟩))))))
  · refine .inr (.inr (.inr (.inr (.inr (.inr (.inr ⟨?_, rfl⟩))))))
    have ht : s.txstat = .idle := by cases h : s.txstat <;> simp_all
    simp [State.busy, h1, h2, h3, h4, h7, ht]

/-! ## The phases of the primitives -/

/-- What an Executor step of `START` can be. -/
theorem phaseStart_cases (s : State) :
    (s.ph = .p0 ∧ s.busph = .free ∧ phaseStart s = { s with sen := true, ph := .p1 }) ∨
      (s.ph = .p0 ∧ s.busph ≠ .free ∧ phaseStart s = refuse s) ∨
      (s.ph = .p1 ∧ s.sen = false ∧ phaseStart s = retire s) ∨
      ((s.ph = .p1 ∧ s.sen = true ∨ s.ph = .p2) ∧ phaseStart s = s) := by
  cases hp : s.ph <;> simp only [phaseStart, hp] <;> (try split_ifs) <;> simp_all

/-- What an Executor step of `RESTART` can be. -/
theorem phaseRestart_cases (s : State) :
    (s.ph = .p0 ∧ s.busph = .owned ∧ phaseRestart s = { s with rsen := true, ph := .p1 }) ∨
      (s.ph = .p0 ∧ s.busph ≠ .owned ∧ phaseRestart s = refuse s) ∨
      (s.ph = .p1 ∧ s.rsen = false ∧ phaseRestart s = retire s) ∨
      ((s.ph = .p1 ∧ s.rsen = true ∨ s.ph = .p2) ∧ phaseRestart s = s) := by
  cases hp : s.ph <;> simp only [phaseRestart, hp] <;> (try split_ifs) <;> simp_all

/-- What an Executor step of `STOP` can be. -/
theorem phaseStop_cases (s : State) :
    (s.ph = .p0 ∧ s.busph = .owned ∧ phaseStop s = { s with pen := true, ph := .p1 }) ∨
      (s.ph = .p0 ∧ s.busph ≠ .owned ∧ phaseStop s = refuse s) ∨
      (s.ph = .p1 ∧ s.pen = false ∧ phaseStop s = retire s) ∨
      ((s.ph = .p1 ∧ s.pen = true ∨ s.ph = .p2) ∧ phaseStop s = s) := by
  cases hp : s.ph <;> simp only [phaseStop, hp] <;> (try split_ifs) <;> simp_all

/-- What an Executor step of `ACK` can be. -/
theorem phaseAck_cases (s : State) :
    (s.ph = .p0 ∧ s.busph = .ackOwed ∧ phaseAck s = { s with ackdt := false, acken := true, ph := .p1 }) ∨
      (s.ph = .p0 ∧ s.busph ≠ .ackOwed ∧ phaseAck s = refuse s) ∨
      (s.ph = .p1 ∧ s.acken = false ∧ phaseAck s = retire s) ∨
      ((s.ph = .p1 ∧ s.acken = true ∨ s.ph = .p2) ∧ phaseAck s = s) := by
  cases hp : s.ph <;> simp only [phaseAck, hp] <;> (try split_ifs) <;> simp_all

/-- What an Executor step of `NACK` can be. -/
theorem phaseNack_cases (s : State) :
    (s.ph = .p0 ∧ s.busph = .ackOwed ∧ phaseNack s = { s with ackdt := true, acken := true, ph := .p1 }) ∨
      (s.ph = .p0 ∧ s.busph ≠ .ackOwed ∧ phaseNack s = refuse s) ∨
      (s.ph = .p1 ∧ s.acken = false ∧ phaseNack s = retire s) ∨
      ((s.ph = .p1 ∧ s.acken = true ∨ s.ph = .p2) ∧ phaseNack s = s) := by
  cases hp : s.ph <;> simp only [phaseNack, hp] <;> (try split_ifs) <;> simp_all

/-- What an Executor step of `WAIT_IDLE` can be. -/
theorem phaseWaitIdle_cases (s : State) :
    (s.ph = .p0 ∧ s.busy = false ∧ phaseWaitIdle s = retire s) ∨
      ((s.ph = .p0 ∧ s.busy = true ∨ s.ph = .p1 ∨ s.ph = .p2) ∧ phaseWaitIdle s = s) := by
  have hb : s.busIdle = !s.busy := by
    cases h : s.busy
    · simpa using (busIdle_iff s).2 h
    · simp [State.busIdle, h]
  cases hp : s.ph <;> cases h : s.busy <;> simp_all [phaseWaitIdle]

/-- What an Executor step of `WRITE_BYTE` can be. -/
theorem phaseWriteByte_cases (s : State) :
    (s.ph = .p0 ∧ s.busph = .owned ∧
        phaseWriteByte s = { s with buf := s.opdata, bf := true, txstat := .shift, ph := .p1 }) ∨
      (s.ph = .p0 ∧ s.busph ≠ .owned ∧ phaseWriteByte s = refuse s) ∨
      (s.ph = .p1 ∧ s.bf = false ∧ phaseWriteByte s = { s with ph := .p2 }) ∨
      (s.ph = .p2 ∧ s.busy = false ∧ phaseWriteByte s = retire s) ∨
      ((s.ph = .p1 ∧ s.bf = true ∨ s.ph = .p2 ∧ s.busy = true) ∧ phaseWriteByte s = s) := by
  have hb := busIdle_iff s
  cases hp : s.ph <;> simp only [phaseWriteByte, hp] <;> (try split_ifs) <;> simp_all

/-- What an Executor step of `READ_BYTE` can be. -/
theorem phaseReadByte_cases (s : State) :
    (s.ph = .p0 ∧ s.busph = .owned ∧ phaseReadByte s = { s with rcen := true, ph := .p1 }) ∨
      (s.ph = .p0 ∧ s.busph ≠ .owned ∧ phaseReadByte s = refuse s) ∨
      (s.ph = .p1 ∧ s.bf = true ∧ phaseReadByte s = { s with ph := .p2 }) ∨
      (s.ph = .p2 ∧ s.busy = false ∧ phaseReadByte s = retire { s with rxdata := s.buf, bf := false }) ∨
      ((s.ph = .p1 ∧ s.bf = false ∨ s.ph = .p2 ∧ s.busy = true) ∧ phaseReadByte s = s) := by
  have hb := busIdle_iff s
  cases hp : s.ph <;> simp only [phaseReadByte, hp] <;> (try split_ifs) <;> simp_all

/-! ## The sequencer and the Executor -/

/-- What a step of the sequencer can be. -/
theorem sequencerStep_cases (s : State) :
    (microprogram s.kind s.seqStep = .idle ∧ sequencerStep s = s) ∨
      (∃ p d post n, microprogram s.kind s.seqStep = .prim p d post n ∧ sequencerStep s = dispatch p d s) ∨
      (∃ n, microprogram s.kind s.seqStep = .chkAck n ∧ s.ackstat = false ∧ sequencerStep s = { s with seqStep := n }) ∨
      (∃ n, microprogram s.kind s.seqStep = .chkAck n ∧ s.ackstat = true ∧ s.params.noack = .abort ∧
        sequencerStep s = { s with errstep := s.seqStep, seqStep := 17 }) ∨
      (∃ n, microprogram s.kind s.seqStep = .chkAck n ∧ s.ackstat = true ∧ s.params.noack = .hang ∧
        sequencerStep s = s) ∨
      (microprogram s.kind s.seqStep = .done ∧ sequencerStep s = complete s) ∨
      (microprogram s.kind s.seqStep = .fail ∧ sequencerStep s = abortDone s) := by
  unfold sequencerStep
  cases hm : microprogram s.kind s.seqStep with
  | idle => simp
  | prim p d post n => simp
  | chkAck n => cases ha : s.ackstat <;> cases hp : s.params.noack <;> simp [checkAck, ha, hp]
  | done => simp
  | fail => simp

/-- What a step of the Executor can be. -/
theorem executorStep_cases (s : State) :
    (∃ p, s.op = some p ∧ executorStep s = primStep p s) ∨ (s.op = none ∧ executorStep s = sequencerStep s) := by
  cases h : s.op <;> simp [executorStep, h]

end Sys2Proof.Machine
end

