-- ==== Sys2Proof/Laws/Invariant.lean ====
section
/-!
SUPPORT. The invariant as a Boolean test, and what its parts say of a primitive in progress.
-/
namespace Sys2Proof.Safety

open Sys2Proof.Machine

/-- The invariant, computed. -/
def invCheck (s : State) : Bool :=
  execShape s && seqShape s && errstepLegal s && sampleShape s && s.raw &&& 3 == 0 &&
    decide (s.result < 2 ^ s.params.fmt.width) && (s.busph != .ackOwed || lastIsGot s)

theorem inv_iff_check (s : State) : Inv s ↔ invCheck s = true := by
  constructor
  · rintro ⟨h1, h2, h3, h4, h5, h6, h7⟩
    have h7' : s.busph ≠ .ackOwed ∨ lastIsGot s = true := by
      by_cases h : s.busph = .ackOwed
      · exact .inr (h7 h)
      · exact .inl h
    simp [invCheck, h1, h2, h3, h4, h6, h7', show s.raw &&& 3#16 = 0#16 from h5]
  · intro h
    simp only [invCheck, Bool.and_eq_true, Bool.or_eq_true, beq_iff_eq, bne_iff_ne, decide_eq_true_eq] at h
    obtain ⟨⟨⟨⟨⟨⟨h1, h2⟩, h3⟩, h4⟩, h5⟩, h6⟩, h7⟩ := h
    exact ⟨h1, h2, h3, h4, h5, h6, fun h => h7.resolve_left (fun hn => hn h)⟩

theorem owesNothing_iff (s : State) : owesNothing s = true ↔ s.busy = false := by
  rw [busy_eq_false_iff]
  simp [owesNothing, owes, and_assoc]

/-- Between commands the Executor's part of the invariant says that nothing is in flight. -/
theorem execShape_none {s : State} (h : s.op = none) :
    execShape s = true ↔ s.busy = false ∧ s.bf = false ∧ s.ph = .p0 := by
  simp [execShape, h, owesNothing_iff, and_assoc]

/-- At phase 0 of a primitive nothing has been requested yet. -/
theorem primShape_p0 {s : State} (p : Prim) (h : s.ph = .p0) :
    primShape p s = true ↔ s.busy = false ∧ s.bf = false := by
  simp [primShape, h, owesNothing_iff]

/-- A step of the microprogram that runs a primitive: the primitive in progress is that one, with its data byte. -/
theorem seqShape_prim {s : State} {p : Prim} {d : Byte} {post : Post} {n : Fin 19}
    (hm : microprogram s.kind s.seqStep = .prim p d post n) (h : seqShape s = true) :
    s.tstat = .none ∧
      (s.op = none ∧ s.busph = phaseBefore s.seqStep ∨
        s.op = some p ∧ s.opdata = d ∧ (s.ph = .p0 → s.busph = phaseBefore s.seqStep)) := by
  simp only [seqShape, hm, Bool.and_eq_true, Bool.or_eq_true, beq_iff_eq, bne_iff_ne] at h
  obtain ⟨⟨ht, -⟩, h⟩ := h
  refine ⟨ht, h.imp id fun ⟨⟨ho, hd⟩, hp⟩ => ⟨ho, hd, fun h0 => hp.resolve_left (fun hn => hn h0)⟩⟩

/-- A step that is no primitive has none in progress. -/
theorem seqShape_single {s : State} (h : seqShape s = true) (hs : s.seqStep = 3 ∨ s.seqStep = 5 ∨ s.seqStep = 8 ∨
    s.seqStep = 16 ∨ s.seqStep = 18) : s.op = none ∧ s.tstat = .none ∧ s.busph = phaseBefore s.seqStep := by
  rcases hs with hk | hk | hk | hk | hk <;> simp [seqShape, hk] at h ⊢ <;> simp [h]

end Sys2Proof.Safety
end

