-- ==== Sys2Proof/Laws/PerInstr.lean ====
section
/-!
SUPPORT. The family `TableRow`: every command's word lies in its row of 30_encoding.md R82 and is legal (R83), one lemma
per constructor.
-/
namespace Sys2Proof.Laws.TableRow

/-- The command's word matches its row of R82, the row stands in the table, and the word is legal. -/
def Statement (i : Instr) : Prop :=
  encode i &&& i.rowMask = i.rowMatch ∧ (i.rowMatch, i.rowMask) ∈ opcodeRows ∧ legal (encode i) = true

theorem start : Statement .start := by unfold Statement; decide
theorem restart : Statement .restart := by unfold Statement; decide
theorem stop : Statement .stop := by unfold Statement; decide
theorem ack : Statement .ack := by unfold Statement; decide
theorem nack : Statement .nack := by unfold Statement; decide
theorem waitIdle : Statement .waitIdle := by unfold Statement; decide

/-- All 256 operand bytes (R84). -/
theorem writeByte (value : Byte) : Statement (.writeByte value) := by
  unfold Statement
  revert value
  decide

theorem readByte : Statement .readByte := by unfold Statement; decide
theorem readTemperature : Statement .readTemperature := by unfold Statement; decide
theorem readHumidity : Statement .readHumidity := by unfold Statement; decide

end Sys2Proof.Laws.TableRow
end

