-- ==== Sys2Proof/Tests/Slice0.lean ====
section
/-!
SUPPORT. Tests of the model: the well-formedness checks, the decoder on words written out from 30_encoding.md R82, single
steps against 95_test_vectors.md, and one witness for every statement that has premises.
-/
namespace Sys2Proof.Tests

open Sys2Proof.Machine Sys2Proof.Safety

/-! ## Well-formedness: an ill-formed term for each check (30_encoding.md R83) -/

theorem test_opc_zero_refused : (Fields.mk 0 0 0).wellFormed = false ∧ (Fields.mk 0 0 0).opcOk = false := by decide
theorem test_opc_eleven_refused : (Fields.mk 11 0 0).wellFormed = false ∧ (Fields.mk 11 0 0).opcOk = false := by decide
theorem test_rsv_refused : (Fields.mk 7 1 0xFF).wellFormed = false ∧ (Fields.mk 7 1 0xFF).rsvOk = false := by decide
theorem test_data_refused : (Fields.mk 9 0 1).wellFormed = false ∧ (Fields.mk 9 0 1).dataOk = false := by decide
theorem test_fields_accepted : (Fields.mk 7 0 0xFF).wellFormed = true ∧ (Fields.mk 10 0 0).wellFormed = true := by decide

/-! ## Decoding words written out bit by bit: `opc rsv data` (R80, R82) -/

theorem test_decode_start : decode 0b0001000000000000 = .ok .start := by decide
theorem test_decode_restart : decode 0b0010000000000000 = .ok .restart := by decide
theorem test_decode_stop : decode 0b0011000000000000 = .ok .stop := by decide
theorem test_decode_ack : decode 0b0100000000000000 = .ok .ack := by decide
theorem test_decode_nack : decode 0b0101000000000000 = .ok .nack := by decide
theorem test_decode_waitIdle : decode 0b0110000000000000 = .ok .waitIdle := by decide
theorem test_decode_writeByte : decode 0b0111000010000001 = .ok (.writeByte 0x81) := by decide
theorem test_decode_readByte : decode 0b1000000000000000 = .ok .readByte := by decide
theorem test_decode_readTemperature : decode 0b1001000000000000 = .ok .readTemperature := by decide
theorem test_decode_readHumidity : decode 0b1010000000000000 = .ok .readHumidity := by decide
/-- V-E16, V-E17, V-E21, V-E22. -/
theorem test_decode_illegal :
    decode 0xFFFF = .error .reservedOpcode ∧ decode 0x1100 = .error .reservedField ∧
      decode 0x7800 = .error .reservedField ∧ decode 0x80FF = .error .dataNotZero := by decide
theorem test_table_word : decodeTableWord 16 0x70E3 = some (.writeByte 0xE3) ∧ decodeTableWord 16 0 = none := by decide
/-- R86: the assembler lines of two commands. -/
theorem test_asm : Instr.asm (.writeByte 0xE5) = "WRITE_BYTE 0xE5" ∧ Instr.asm .readByte = "READ_BYTE" := by decide

/-! ## Small states -/

/-- The bus owned after a start. -/
def owned : State := { State.reset with busph := .owned, trace := [.start] }

/-- A received byte unanswered. -/
def owed : State := { State.reset with busph := .ackOwed, trace := [.start, .got 0x65], buf := 0x65, rxdata := 0x65 }

/-- The bus free, with a device's answers scripted. -/
def scripted (acks : List Bool) (bytes : List Byte) : State := { State.reset with acks := acks, bytes := bytes }

/-- One step with a given turn on the agenda. -/
def turned (t : Turn) (s : State) : Option State :=
  match step { s with agenda := [t] } with
  | .next u => some u
  | .fault _ => none
  | .refused _ => none

/-- Some registers of a state, as the Host reads them. -/
def reads (ns : List Nat) (s : Option State) : Option (List Nat) := s.map fun u => ns.map fun n => readReg n u

/-- The events of a state. -/
def events (s : Option State) : Option (List BusEvent) := s.map State.trace

/-- A whole command, as one step. -/
def issued (w : Word) (s : State) : Option State := turned (.host (.issue w)) s

/-! ## The primitives: V-P1 to V-P14, one step each; registers `STATUS`, `CTL`, `FAULT`, `EXEC` -/

theorem test_start : reads [1, 2, 3, 5] (issued 0x1000 State.reset) = some [0x1001, 0, 0, 0] ∧
    events (issued 0x1000 State.reset) = some [.start] := by decide
/-- R86: a program line waits for the command in progress, and then runs its own. -/
theorem test_program_line_waits :
    reads [1, 2, 3, 5] (issued 0x3000 { State.reset with op := some .start }) = some [0x0001, 0, 0, 0] ∧
      events (issued 0x3000 { State.reset with op := some .start }) = some [.start, .stop] := by decide
/-- R86: a whole program begun in the middle of a command; nothing is dropped. -/
theorem test_program_waits :
    events (runProgram [.restart, .stop] { State.reset with op := some .start }) = some [.start, .restart, .stop] := by
  decide
/-- V-P14: a double start. -/
theorem test_start_refused : reads [1, 2, 3, 5] (issued 0x1000 owned) = some [0x1001, 0, 4, 0] ∧
    events (issued 0x1000 owned) = some [.start] := by decide
theorem test_restart : reads [1, 2, 3] (issued 0x2000 owned) = some [0x1001, 0, 0] ∧
    events (issued 0x2000 owned) = some [.start, .restart] := by decide
theorem test_stop : reads [1, 2, 3] (issued 0x3000 owned) = some [0x0001, 0, 0] ∧
    events (issued 0x3000 owned) = some [.start, .stop] := by decide
/-- V-F4: a stop on a free bus. -/
theorem test_stop_refused : reads [1, 3] (issued 0x3000 State.reset) = some [0x0001, 4] ∧
    events (issued 0x3000 State.reset) = some [] := by decide
theorem test_ack : reads [1, 2, 3] (issued 0x4000 { owed with ackdt := true }) = some [0x1001, 0, 0] ∧
    events (issued 0x4000 owed) = some [.start, .got 0x65, .ack] := by decide
theorem test_nack : reads [1, 2, 3] (issued 0x5000 owed) = some [0x1001, 0x20, 0] ∧
    events (issued 0x5000 owed) = some [.start, .got 0x65, .nack] := by decide
/-- A refused `ACK` does not write `ACKDT` (program P4, command 10). -/
theorem test_ack_refused : reads [1, 2, 3] (issued 0x4000 { owned with ackdt := true }) = some [0x1001, 0x20, 4] := by
  decide
theorem test_waitIdle : reads [1, 3, 5] (issued 0x6000 owed) = some [0x2001, 0, 0] ∧
    events (issued 0x6000 owed) = some [.start, .got 0x65] := by decide
/-- V-P10: a byte not acknowledged. -/
theorem test_writeByte : reads [1, 2, 3, 5] (issued 0x70E3 { owned with acks := [true] }) = some [0x1021, 0, 0, 0xE300] ∧
    events (issued 0x70E3 { owned with acks := [true] }) = some [.start, .wrote 0xE3 true] := by decide
/-- Program P4, command 1: the refused byte stays in `OPDATA`. -/
theorem test_writeByte_refused : reads [1, 3, 5] (issued 0x7080 State.reset) = some [0x0001, 4, 0x8000] := by decide
/-- V-P11. -/
theorem test_readByte : reads [1, 3, 5, 6] (issued 0x8000 { owned with bytes := [0x65] }) = some [0x2001, 0, 0, 0x65] ∧
    events (issued 0x8000 { owned with bytes := [0x65] }) = some [.start, .got 0x65] := by decide

/-! ## Single phases and engine steps: V-P9, V-P10, V-P11, V-P12 -/

/-- V-P9, rows 1 and 2. -/
theorem test_accept_start :
    reads [1, 2, 5] (turned (.host (.write 0 0x1000)) State.reset) = some [0, 0, 1] ∧
      reads [1, 2, 5] (turned .executor { State.reset with op := some .start }) = some [0x0040, 1, 0x11] := by decide
/-- V-P10, rows 2 to 4. -/
theorem test_write_phases :
    reads [1, 5] (turned .executor { owned with op := some .writeByte, opdata := 0xE3 }) = some [0x1150, 0xE317] ∧
      reads [1, 5] (turned .engine
        { owned with op := some .writeByte, opdata := 0xE3, ph := .p1, buf := 0xE3, bf := true, txstat := .shift }) =
        some [0x1240, 0xE317] ∧
      reads [1, 5] (turned .engine
        { owned with
          op := some .writeByte, opdata := 0xE3, ph := .p1, buf := 0xE3, txstat := .ackWait, acks := [true] }) =
        some [0x1020, 0xE317] := by decide
/-- V-P11, rows 3 to 5. -/
theorem test_read_phases :
    reads [1, 2, 5] (turned .engine { owned with op := some .readByte, ph := .p1, rcen := true, bytes := [0x65] }) =
        some [0x2010, 0, 0x18] ∧
      reads [1, 5] (turned .executor { owed with op := some .readByte, ph := .p1, bf := true }) =
        some [0x2010, 0x28] ∧
      reads [1, 5, 6] (turned .executor { owed with op := some .readByte, ph := .p2, bf := true, rxdata := 0 }) =
        some [0x2001, 0, 0x65] := by decide

/-! ## The transactions: V-T1 to V-T9, V-S7; registers `STATUS`, `CTL`, `SEQ`, then data -/

/-- V-T1. -/
theorem test_readTemperature :
    reads [1, 2, 3, 4, 6, 7, 8, 9, 10, 11] (issued 0x9000 (scripted [false, false, false] [0x65, 0x2C, 0x9B])) =
      some [0x0003, 0x20, 0, 0, 0x9B, 0x65, 0x2C, 0x9B, 0x652C, 0x40522AF1E147AE14] := by decide +kernel
/-- V-T5. -/
theorem test_readTemperature_abort :
    reads [1, 2, 4, 10] (issued 0x9000 (scripted [false, false, true] [])) = some [0x0025, 0, 0x0800, 0] ∧
      events (issued 0x9000 (scripted [false, false, true] [])) =
        some [.start, .wrote 0x80 false, .wrote 0xE3 false, .restart, .wrote 0x81 true, .stop] := by decide +kernel
/-- V-T2. -/
theorem test_readHumidity :
    reads [1, 2, 4, 10, 11] (issued 0xA000 (scripted [false, false, false] [0x65, 0x2C, 0x9B])) =
        some [0x000B, 0x20, 0, 0x652C, 0x4045B33E00000000] ∧
      events (issued 0xA000 (scripted [false, false, false] [0x65, 0x2C, 0x9B])) =
        some [.start, .wrote 0x80 false, .wrote 0xE5 false, .restart, .wrote 0x81 false, .got 0x65, .ack, .got 0x2C,
          .ack, .got 0x9B, .nack, .stop] := by decide +kernel
/-- V-T3. -/
theorem test_readHumidity_abort :
    reads [1, 2, 4] (issued 0xA000 (scripted [false, true] [])) = some [0x002D, 0, 0x0500] := by decide +kernel
/-- V-T9. -/
theorem test_transaction_refused : reads [1, 3, 4] (issued 0x9000 owned) = some [0x1001, 4, 0] := by decide
/-- V-S7, under `NOACK_POLICY = HANG`. -/
theorem test_hang :
    reads [1, 4, 5] (issued 0x9000 { scripted [true] [] with params := ⟨.hang, .binary64⟩ }) =
      some [0x1020, 0x0003, 0x8000] := by decide +kernel

/-! ## Faults, the register file, reset: V-F1 to V-F3, V-H1, V-H3, V-R1 -/

theorem test_illcmd : reads [1, 3] (issued 0x0000 State.reset) = some [1, 1] := by decide
/-- V-F3: `OVR` before `ILLCMD`. -/
theorem test_ovr :
    reads [3, 4] (turned (.host (.write 0 0xFFFF)) { State.reset with seqStep := 1 }) = some [2, 1] := by decide
theorem test_write_ignored : turned (.host (.write 3 0x9000)) owned = some owned := by decide
theorem test_reset_mid_command :
    turned (.host .reset) { owned with op := some .start, ph := .p1, sen := true, proto := true } =
      some { State.reset with trace := [.start] } := by decide

/-! ## The decode: tables B4 -/

theorem test_celsius : bitsOf .binary64 (celsius .binary64 0x6000) = 0x40330B851EB851EA := by decide +kernel
/-- R171: a constant is the nearest value also where operations round toward zero (R172's pattern of 175.72). -/
theorem test_constant_nearest :
    bitsOf .binary64 (constant { FloatFmt.binary64 with rounding := .towardZero } false 17572 100) =
      0x4065F70A3D70A3D7 := by decide +kernel
/-- Where `celsius * 1.8 + 32` would differ. -/
theorem test_fahrenheit : decodeBits .binary64 .temperature 0x7C80 = 0x40595F97CED91686 := by decide +kernel
theorem test_zero : decodeBits .binary64 .temperature 0 = 0xC04A2A3D70A3D70C := by decide +kernel
theorem test_binary32 : decodeBits .binary32 .temperature 0x683C = 0x4298E8E0 := by decide +kernel
theorem test_humidity : decodeBits .binary64 .humidity 0xFFFC = 0x405DBF8300000000 := by decide +kernel
/-- V-S6. -/
theorem test_mask : assembleRaw 0xFF 0xFF = 0xFFFC ∧ assembleRaw 0x00 0x03 = 0x0000 := by decide
/-- The exact rational of `RAW = 0x652C`. -/
theorem test_exact : fahrenheitExact 0x652C = 29766047 / 409600 ∧ humidityExact 0x652C = 711071 / 16384 := by
  decide +kernel

/-! ## Witnesses: for every statement with premises, a state and operands that meet all of them, clause by clause -/

theorem idle_reset : Idle State.reset := ⟨rfl, rfl, rfl, rfl, rfl⟩
theorem idle_owned : Idle owned := ⟨rfl, rfl, rfl, rfl, rfl⟩
theorem idle_owed : Idle owed := ⟨rfl, rfl, rfl, rfl, rfl⟩
theorem idle_scripted (a : List Bool) (b : List Byte) : Idle (scripted a b) := ⟨rfl, rfl, rfl, rfl, rfl⟩
theorem inv_owned : Inv owned := (inv_iff_check _).2 (by decide)
theorem inv_owed : Inv owed := (inv_iff_check _).2 (by decide)
theorem inv_scripted : Inv (scripted [false] []) := (inv_iff_check _).2 (by decide)

theorem witness_LegalWordsAreTheTableRows :
    ((0x7000, 0xFF00) : Word × Word) ∈ opcodeRows ∧ (0x7080 : Word) &&& 0xFF00 = 0x7000 := by decide

/-- A block in the middle of a `START`, and one hung at a check under `HANG`. -/
def starting : State := { State.reset with op := some .start }
def hungAtCheck : State := { owned with params := ⟨.hang, .binary64⟩, seqStep := 5, ackstat := true }

/-- One state per clause: ready, busy and waited for, hung. -/
theorem witness_StepRunsDecodedInstruction :
    decode 0x7080 = .ok (.writeByte 0x80) ∧ owned.ready = true ∧ starting.ready = false ∧
      (∀ s ∈ [owned, starting, hungAtCheck],
        ({ s with agenda := [.host (.issue 0x7080)] } : State).agenda = .host (.issue 0x7080) :: []) ∧
      (waitReady { starting with agenda := [] }).ready = true ∧
      (waitReady { hungAtCheck with agenda := [] }).ready = false := by decide

theorem witness_ProgramLineWaitsForReady :
    Inv { starting with agenda := [.host (.issue 0x3000)] } ∧ starting.ready = false ∧
      starting.params.noack = .abort ∧ decode 0x3000 = .ok .stop := ⟨(inv_iff_check _).2 (by decide), rfl, rfl, rfl⟩

theorem witness_OverrunSetsOvrAlone :
    ∀ w : Word, ∃ s : State, s.ready = false ∧ s.agenda = .host (.write 0 w) :: [] :=
  fun w => ⟨{ owned with op := some .start, agenda := [.host (.write 0 w)] }, rfl, rfl⟩

theorem witness_IllegalWordSetsIllcmdAlone :
    owned.ready = true ∧ legal 0x71FF = false ∧
      ({ owned with agenda := [.host (.write 0 0x71FF)] } : State).agenda = .host (.write 0 0x71FF) :: [] ∧
      ({ owned with agenda := [.host (.issue 0x71FF)] } : State).agenda = .host (.issue 0x71FF) :: [] := by decide

theorem witness_PrimitiveAccepted :
    owned.ready = true ∧ primOf (.writeByte 0xFF) = some .writeByte ∧
      ({ owned with agenda := [.host (.write 0 (encode (.writeByte 0xFF)))] } : State).agenda =
        .host (.write 0 (encode (.writeByte 0xFF))) :: [] := by decide

theorem witness_TransactionAcceptance :
    (∀ k : Kind, ∃ s : State, s.ready = true ∧ s.agenda = .host (.write 0 (encode k.command)) :: [] ∧ s.busph = .free) ∧
      ∀ k : Kind, ∃ s : State, s.ready = true ∧ s.agenda = .host (.write 0 (encode k.command)) :: [] ∧ s.busph ≠ .free :=
  ⟨fun k => ⟨{ State.reset with agenda := [.host (.write 0 (encode k.command))] }, rfl, rfl, rfl⟩,
    fun k => ⟨{ owned with agenda := [.host (.write 0 (encode k.command))] }, rfl, rfl, by simp [owned]⟩⟩

/-- One state per clause: the primitive, at phase 0, in the bus phase that admits it. -/
theorem witness_PhaseZeroSetsTheRequest :
    ∀ x ∈ [(Prim.start, BusPhase.free), (.restart, .owned), (.stop, .owned), (.ack, .ackOwed), (.nack, .ackOwed),
        (.writeByte, .owned), (.readByte, .owned)],
      ∃ s : State, s.ph = .p0 ∧ s.op = some x.1 ∧ s.busph = x.2 :=
  fun x _ => ⟨{ State.reset with op := some x.1, busph := x.2 }, rfl, rfl, rfl⟩

theorem witness_PhaseZeroRefusesByTheTable :
    ({ owned with op := some .start } : State).op = some .start ∧ owned.ph = .p0 ∧ owned.seqStep = 0 ∧
      legalIn .start owned.busph = false := by decide

/-- One state per clause: the primitive's flag still set, or its buffer not yet full, at phase 1; then phases 2 and 0. -/
theorem witness_FailedPollIsAStutter :
    (∀ x ∈ [Prim.start, .restart, .stop, .ack, .nack, .writeByte],
      ∃ s : State, s.ph = .p1 ∧ s.op = some x ∧ s.sen = true ∧ s.rsen = true ∧ s.pen = true ∧ s.acken = true ∧
        s.bf = true) ∧
    (∃ s : State, s.ph = .p1 ∧ s.op = some .readByte ∧ s.bf = false) ∧
    (∀ x ∈ [Prim.writeByte, .readByte], ∃ s : State, s.ph = .p2 ∧ s.busIdle = false ∧ s.op = some x) ∧
    (∃ s : State, s.ph = .p0 ∧ s.busIdle = false ∧ s.op = some .waitIdle) :=
  ⟨fun x _ =>
      ⟨{ State.reset with op := some x, ph := .p1, sen := true, rsen := true, pen := true, acken := true, bf := true },
        rfl, rfl, rfl, rfl, rfl, rfl, rfl⟩,
    ⟨{ owned with op := some .readByte, ph := .p1, rcen := true }, rfl, rfl, rfl⟩,
    fun x _ => ⟨{ owned with op := some x, ph := .p2, txstat := .ackWait }, rfl, rfl, rfl⟩,
    ⟨{ owned with op := some .waitIdle, txstat := .ackWait }, rfl, rfl, rfl⟩⟩

theorem witness_ReadByteRetires :
    ∀ k ∈ ([0, 9, 11, 13] : List (Fin 19)),
      ∃ s : State, s.op = some .readByte ∧ s.ph = .p2 ∧ s.busy = false ∧ s.seqStep = k :=
  fun k _ => ⟨{ owed with op := some .readByte, ph := .p2, bf := true, seqStep := k }, rfl, rfl, rfl, rfl⟩

theorem witness_MicroprogramDispatches :
    ∀ k ∈ ([1, 2, 4, 6, 7, 9, 10, 11, 12, 13, 14, 15, 17] : List (Fin 19)), ∀ kind : Kind,
      ∃ s : State, s.op = none ∧ s.seqStep = k ∧ s.kind = kind :=
  fun k _ kind => ⟨{ State.reset with seqStep := k, kind := kind }, rfl, rfl, rfl⟩

theorem witness_SequencerSingleSteps :
    ∀ k ∈ ([3, 5, 8, 16, 18] : List (Fin 19)), ∀ (a : Bool) (n : NoackPolicy),
      ∃ s : State, s.op = none ∧ s.seqStep = k ∧ s.ackstat = a ∧ s.params.noack = n :=
  fun k _ a n => ⟨{ owned with seqStep := k, ackstat := a, params := ⟨n, .binary64⟩ }, rfl, rfl, rfl, rfl⟩

/-- One state per clause, each meeting the invariant. -/
theorem witness_EngineStepsAsRuled :
    (∃ s, Inv s ∧ s.sen = true) ∧ (∃ s, Inv s ∧ s.rsen = true) ∧ (∃ s, Inv s ∧ s.pen = true) ∧
      (∃ s, Inv s ∧ s.acken = true ∧ s.ackdt = true) ∧ (∃ s, Inv s ∧ s.txstat = .shift) ∧
      (∃ s, Inv s ∧ s.txstat = .ackWait) ∧ (∃ s, Inv s ∧ s.rcen = true) :=
  ⟨⟨{ State.reset with op := some .start, ph := .p1, sen := true }, (inv_iff_check _).2 (by decide), rfl⟩,
    ⟨{ owned with op := some .restart, ph := .p1, rsen := true }, (inv_iff_check _).2 (by decide), rfl⟩,
    ⟨{ owned with op := some .stop, ph := .p1, pen := true }, (inv_iff_check _).2 (by decide), rfl⟩,
    ⟨{ owed with op := some .nack, ph := .p1, acken := true, ackdt := true }, (inv_iff_check _).2 (by decide), rfl, rfl⟩,
    ⟨{ owned with op := some .writeByte, ph := .p1, bf := true, txstat := .shift }, (inv_iff_check _).2 (by decide), rfl⟩,
    ⟨{ owned with op := some .writeByte, ph := .p1, txstat := .ackWait }, (inv_iff_check _).2 (by decide), rfl⟩,
    ⟨{ owned with op := some .readByte, ph := .p1, rcen := true }, (inv_iff_check _).2 (by decide), rfl⟩⟩

theorem witness_EngineStepStaysEnabled :
    Inv { owned with op := some .writeByte, ph := .p1, txstat := .ackWait } ∧
      ({ owned with op := some .writeByte, ph := .p1, txstat := .ackWait } : State).busy = true :=
  ⟨(inv_iff_check _).2 (by decide), rfl⟩

/-- The premises on `executorStep`'s and `engineStep`'s flags: a state with all five set. -/
theorem witness_WhoWritesThePeripheral :
    ∃ s : State, s.sen = true ∧ s.rsen = true ∧ s.pen = true ∧ s.rcen = true ∧ s.acken = true ∧
      (engineStep s).rsen = true ∧ (engineStep { s with sen := false, rsen := false }).acken = true :=
  ⟨{ owned with sen := true, rsen := true, pen := true, rcen := true, acken := true }, rfl, rfl, rfl, rfl, rfl, rfl, rfl⟩

theorem witness_StartCompletes : Idle State.reset ∧ State.reset.busph = .free := ⟨idle_reset, rfl⟩
theorem witness_RestartCompletes : Idle owned ∧ owned.busph = .owned := ⟨idle_owned, rfl⟩
theorem witness_StopCompletes : Idle owned ∧ owned.busph = .owned := ⟨idle_owned, rfl⟩
theorem witness_AckAndNackComplete : Idle owed ∧ owed.busph = .ackOwed := ⟨idle_owed, rfl⟩
theorem witness_WaitIdleCompletes : Idle owed := idle_owed
theorem witness_WriteByteCompletes : Idle owned ∧ owned.busph = .owned := ⟨idle_owned, rfl⟩
theorem witness_ReadByteCompletes : Idle owned ∧ owned.busph = .owned := ⟨idle_owned, rfl⟩

theorem witness_IllegalPhaseSetsProto :
    (Idle owed ∧ primOf (.writeByte 0x80) = some .writeByte ∧ legalIn .writeByte owed.busph = false) ∧
      (Idle owned ∧ kindOf .readHumidity = some .humidity ∧ owned.busph ≠ .free) :=
  ⟨⟨idle_owed, rfl, rfl⟩, idle_owned, rfl, by simp [owned]⟩

/-- One state per clause: ready and admitted, ready and refused, busy. -/
theorem witness_PrimitiveFrame :
    (∃ t, Inv owned ∧ primOf .restart = some .restart ∧ exec .restart owned = .next t ∧ owned.ready = true ∧
      legalIn .restart owned.busph = true) ∧
    (∃ t, Inv owed ∧ primOf (.writeByte 7) = some .writeByte ∧ exec (.writeByte 7) owed = .next t ∧
      legalIn .writeByte owed.busph = false) ∧
    (∃ t, Inv starting ∧ primOf .readByte = some .readByte ∧ exec .readByte starting = .next t ∧
      starting.ready = false) :=
  ⟨⟨_, inv_owned, rfl, rfl, rfl, rfl⟩, ⟨_, inv_owed, rfl, rfl, rfl⟩,
    ⟨_, (inv_iff_check _).2 (by decide), rfl, rfl, rfl⟩⟩

theorem witness_TransactionSucceeds :
    Idle (scripted [false, false, false] [1, 2, 3]) ∧ (scripted [false, false, false] [1, 2, 3]).busph = .free ∧
      (scripted [false, false, false] [1, 2, 3]).acks = false :: false :: false :: [] ∧
      (scripted [false, false, false] [1, 2, 3]).bytes = 1 :: 2 :: 3 :: [] := ⟨idle_scripted _ _, rfl, rfl, rfl⟩

theorem witness_MissingAcknowledgeAborts :
    ∀ f : FailedCheck, Idle (scripted f.answers []) ∧ (scripted f.answers []).busph = .free ∧
      (scripted f.answers []).params.noack = .abort ∧ (scripted f.answers []).acks = f.answers ++ [] :=
  fun _ => ⟨idle_scripted _ _, rfl, rfl, (List.append_nil _).symm⟩

theorem witness_MissingAcknowledgeHangs :
    ∀ f : FailedCheck, ∃ s : State, Idle s ∧ s.busph = .free ∧ s.params.noack = .hang ∧ s.acks = f.answers ++ [] :=
  fun _ =>
    ⟨{ scripted _ [] with params := ⟨.hang, .binary64⟩ }, ⟨rfl, rfl, rfl, rfl, rfl⟩, rfl, rfl,
      (List.append_nil _).symm⟩

theorem witness_TransactionEndsInOneOfTwoStates :
    Idle State.reset ∧ State.reset.busph = .free ∧ State.reset.params.noack = .abort := ⟨idle_reset, rfl, rfl⟩

theorem witness_MacroExpansionSameTrace :
    Idle (scripted [false, false, false] [1, 2, 3]) ∧ (scripted [false, false, false] [1, 2, 3]).busph = .free ∧
      (scripted [false, false, false] [1, 2, 3]).acks = false :: false :: false :: [] ∧
      (scripted [false, false, false] [1, 2, 3]).bytes = 1 :: 2 :: 3 :: [] := ⟨idle_scripted _ _, rfl, rfl, rfl⟩

/-- Two states with different histories and different checksum bytes. -/
theorem witness_ResultIgnoresChecksumAndHistory :
    ∃ t t', Idle (scripted [false, false, false] [1, 2, 3]) ∧
      Idle { scripted [false, false, false] [1, 2, 9] with raw := 4, proto := true } ∧
      exec Kind.humidity.command (scripted [false, false, false] [1, 2, 3]) = .next t ∧
      exec Kind.humidity.command { scripted [false, false, false] [1, 2, 9] with raw := 4, proto := true } = .next t' ∧
      t.tstat = .ok ∧ t'.tstat = .ok :=
  ⟨_, _, idle_scripted _ _, ⟨rfl, rfl, rfl, rfl, rfl⟩, rfl, rfl, by decide +kernel, by decide +kernel⟩

theorem witness_MicroprogramNeverRefused :
    Inv { owned with seqStep := 9, op := some .readByte } ∧
      ({ owned with seqStep := 9, op := some .readByte } : State).seqStep ≠ 0 :=
  ⟨(inv_iff_check _).2 (by decide), by decide⟩

/-- A state that is about to take a check which fails. -/
theorem witness_HangNeverAborts :
    ∃ s t : State, s.params.noack = .hang ∧ (s.seqStep ≠ 17 ∧ s.seqStep ≠ 18 ∧ s.tstat ≠ .noack) ∧ step s = .next t :=
  ⟨{ owned with params := ⟨.hang, .binary64⟩, seqStep := 5, ackstat := true, agenda := [.executor] }, _, rfl,
    by decide, rfl⟩

theorem witness_EveryScheduleEndsInTheMeaning :
    Inv { owned with acks := [true] } ∧ ({ owned with acks := [true] } : State).ready = true ∧
      (runAgents [.executor, .engine, .executor, .engine, .executor, .executor]
        (accept (.writeByte 0x80) { owned with acks := [true] })).ready = true :=
  ⟨(inv_iff_check _).2 (by decide), rfl, by decide⟩

/-- The two agents in turn: weakly fair from every state. -/
def alternate (n : Nat) : Agent := if n % 2 = 0 then .executor else .engine

theorem alternate_fair (s : State) : WeaklyFair alternate s := by
  intro n a _
  cases a
  · exact ⟨2 * n, by omega, by simp [alternate]⟩
  · exact ⟨2 * n + 1, by omega, by simp [alternate, Nat.add_mod]⟩

theorem witness_FairSchedulesRetire :
    Inv (scripted [false] []) ∧ (scripted [false] []).ready = true ∧ (scripted [false] []).params.noack = .abort ∧
      WeaklyFair alternate (accept .readTemperature (scripted [false] [])) :=
  ⟨inv_scripted, rfl, rfl, alternate_fair _⟩

theorem witness_OnlyHangIsTheMissingAcknowledge :
    ∃ s : State, Inv s ∧ Hung s :=
  ⟨{ owned with params := ⟨.hang, .binary64⟩, seqStep := 5, ackstat := true }, (inv_iff_check _).2 (by decide), rfl,
    fun a => by cases a <;> decide⟩

theorem witness_RawSampleAssembly : ((0x2F : Byte).toNat / 4 = (0x2C : Byte).toNat / 4) := by decide

theorem witness_RegisterFileLayout : 12 ≤ 255 ∧ (11 : Nat) ≠ 0 := by decide

theorem witness_HostReadsAndIdleWrites :
    ({ owned with agenda := [.host (.read 1)] } : State).agenda = .host (.read 1) :: [] ∧
      ((12 : Nat) ≠ 0 ∧
        ({ owned with agenda := [.host (.write 12 0x1000)] } : State).agenda = .host (.write 12 0x1000) :: []) := by
  decide

theorem witness_ResetAtAnyTime :
    ({ owned with agenda := [.host .reset] } : State).agenda = .host .reset :: [] := by decide

theorem witness_StepKeepsInvariant :
    ∃ s t : State, Inv s ∧ step s = .next t :=
  ⟨{ owned with agenda := [.host (.issue 0x8000)] }, _, (inv_iff_check _).2 (by decide), rfl⟩

/-- A state per premise of the clauses: a transaction under way, an acknowledge owed, a byte in transit, a sample. -/
theorem witness_InvariantGivesR43 :
    (Inv owed ∧ owed.op = none ∧ owed.busph = .ackOwed) ∧
      (∃ s, Inv s ∧ s.seqStep ≠ 0) ∧ (∃ s, Inv s ∧ s.txstat = .shift) ∧ (∃ s, Inv s ∧ s.txstat = .ackWait) ∧
      (∃ s, Inv s ∧ s.tstat = .ok) :=
  ⟨⟨inv_owed, rfl, rfl⟩,
    ⟨{ owned with seqStep := 3 }, (inv_iff_check _).2 (by decide), by decide⟩,
    ⟨{ owned with op := some .writeByte, ph := .p1, bf := true, txstat := .shift }, (inv_iff_check _).2 (by decide), rfl⟩,
    ⟨{ owned with op := some .writeByte, ph := .p1, txstat := .ackWait }, (inv_iff_check _).2 (by decide), rfl⟩,
    ⟨{ State.reset with tstat := .ok, result := decodeBits .binary64 .temperature 0 },
      (inv_iff_check _).2 (by decide +kernel), rfl⟩⟩

theorem witness_AcknowledgeOwedFromReceiveToAnswer :
    (∃ s t, Inv s ∧ step s = .next t ∧ s.nextTurn = .host .reset) ∧
      (∃ s t, Inv s ∧ step s = .next t ∧ s.nextTurn ≠ .host .reset ∧ (∀ w, s.nextTurn ≠ .host (.issue w)) ∧
        s.busph ≠ .ackOwed ∧ t.busph = .ackOwed) ∧
      (∃ s t, Inv s ∧ step s = .next t ∧ s.nextTurn ≠ .host .reset ∧ (∀ w, s.nextTurn ≠ .host (.issue w)) ∧
        s.busph = .ackOwed ∧ t.busph ≠ .ackOwed) :=
  ⟨⟨{ owed with agenda := [.host .reset] }, _, (inv_iff_check _).2 (by decide), rfl, rfl⟩,
    ⟨{ owned with op := some .readByte, ph := .p1, rcen := true, agenda := [.engine] }, _,
      (inv_iff_check _).2 (by decide), rfl, by decide, fun w => by simp [State.nextTurn], by decide, rfl⟩,
    ⟨{ owed with op := some .ack, ph := .p1, acken := true, agenda := [.engine] }, _,
      (inv_iff_check _).2 (by decide), rfl, by decide, fun w => by simp [State.nextTurn], rfl, by decide⟩⟩

theorem witness_ReadyMeansIdle : Inv owed ∧ owed.ready = true := ⟨inv_owed, rfl⟩

theorem witness_FaultsAreSticky :
    ∃ s t : State, step s = .next t ∧ s.nextTurn ≠ .host .reset ∧ s.illcmd = true ∧ s.ovr = true ∧ s.proto = true :=
  ⟨{ owned with illcmd := true, ovr := true, proto := true, agenda := [.host (.issue 0x3000)] }, _, rfl, by decide, rfl,
    rfl, rfl⟩

theorem witness_TraceOnlyGrows : ∃ s t : State, step s = .next t := ⟨{ owned with agenda := [.host .reset] }, _, rfl⟩

theorem witness_ParametersAreFixed : ∃ s t : State, step s = .next t := ⟨{ owned with agenda := [.host .reset] }, _, rfl⟩

theorem witness_SampleWrittenOnlyWhereRuled :
    ∃ s t : State, step s = .next t ∧ s.nextTurn ≠ .host .reset ∧ (∀ w, s.nextTurn ≠ .host (.issue w)) ∧
      s.seqStep ≠ 16 ∧ s.seqStep ≠ 9 ∧ s.seqStep ≠ 11 ∧ s.seqStep ≠ 13 :=
  ⟨{ owned with seqStep := 3, agenda := [.executor] }, _, rfl, by decide, fun w => by simp [State.nextTurn], by decide,
    by decide, by decide, by decide⟩

end Sys2Proof.Tests
end

section
/-!
What one Executor step of a primitive in progress can be, said once for all eight (40_bus_primitives.md R100 to R108),
when an agent's step is a stutter (00_scope.md R7), and a property that every kind of turn keeps.
-/
namespace Sys2Proof.Machine

/-! ## The steps of a primitive -/

/-- The Executor has nothing to do for primitive `p`: it is at a wait whose condition is false, or at a phase that R101
to R108 do not give. -/
def PrimStalls (p : Prim) (s : State) : Prop :=
  match p with
  | .start => s.ph = .p1 ∧ s.sen = true ∨ s.ph = .p2
  | .restart => s.ph = .p1 ∧ s.rsen = true ∨ s.ph = .p2
  | .stop => s.ph = .p1 ∧ s.pen = true ∨ s.ph = .p2
  | .ack => s.ph = .p1 ∧ s.acken = true ∨ s.ph = .p2
  | .nack => s.ph = .p1 ∧ s.acken = true ∨ s.ph = .p2
  | .waitIdle => s.ph = .p0 ∧ s.busy = true ∨ s.ph = .p1 ∨ s.ph = .p2
  | .writeByte => s.ph = .p1 ∧ s.bf = true ∨ s.ph = .p2 ∧ s.busy = true
  | .readByte => s.ph = .p1 ∧ s.bf = false ∨ s.ph = .p2 ∧ s.busy = true

/-- What an admitted primitive writes in phase 0. `WAIT_IDLE` requests nothing. -/
def request (p : Prim) (s : State) : State :=
  match p with
  | .start => { s with sen := true, ph := .p1 }
  | .restart => { s with rsen := true, ph := .p1 }
  | .stop => { s with pen := true, ph := .p1 }
  | .ack => { s with ackdt := false, acken := true, ph := .p1 }
  | .nack => { s with ackdt := true, acken := true, ph := .p1 }
  | .waitIdle => s
  | .writeByte => { s with buf := s.opdata, bf := true, txstat := .shift, ph := .p1 }
  | .readByte => { s with rcen := true, ph := .p1 }

/-- What a primitive takes from the buffer in the step in which it retires: `READ_BYTE` its byte (R108), the others
nothing. -/
def collect (p : Prim) (s : State) : State :=
  match p with
  | .start | .restart | .stop | .ack | .nack | .waitIdle | .writeByte => s
  | .readByte => { s with rxdata := s.buf, bf := false }

/-- What a step of a primitive that does not stall can be: its request, its refusal, the passage to phase 2, or its
retirement. -/
inductive PrimMoves (p : Prim) (s : State) : Prop where
  | requests (hph : s.ph = .p0) (hp : p ≠ .waitIdle) (hlegal : legalIn p s.busph = true)
      (h : primStep p s = request p s)
  | refused (hph : s.ph = .p0) (hlegal : legalIn p s.busph = false) (h : primStep p s = refuse s)
  | passes (hph : s.ph = .p1) (h : primStep p s = { s with ph := .p2 })
  | retires (h : primStep p s = retire (collect p s))

/-- Each primitive but `WAIT_IDLE` is legal in one bus phase only (R118). -/
theorem legalIn_eq_false {p : Prim} {b c : BusPhase} (hp : p ≠ .waitIdle) (hc : legalIn p c = true) (hb : b ≠ c) :
    legalIn p b = false := by
  cases p with
  | waitIdle => exact absurd rfl hp
  | _ => cases b <;> cases c <;> simp_all [legalIn]

/-- The five primitives that request one bus event: phase 1 waits for the flag to clear, then the primitive retires. -/
theorem primStep_cases_of_flag {p : Prim} {s : State} {b : BusPhase} {flag : Bool} (hp : p ≠ .waitIdle)
    (hlegal : legalIn p b = true) (hstalls : PrimStalls p s ↔ s.ph = .p1 ∧ flag = true ∨ s.ph = .p2)
    (hcases : (s.ph = .p0 ∧ s.busph = b ∧ primStep p s = request p s) ∨
      (s.ph = .p0 ∧ s.busph ≠ b ∧ primStep p s = refuse s) ∨
      (s.ph = .p1 ∧ flag = false ∧ primStep p s = retire (collect p s)) ∨
      ((s.ph = .p1 ∧ flag = true ∨ s.ph = .p2) ∧ primStep p s = s)) :
    PrimStalls p s ∧ primStep p s = s ∨ ¬ PrimStalls p s ∧ PrimMoves p s := by
  rw [hstalls]
  rcases hcases with ⟨hph, hb, h⟩ | ⟨hph, hb, h⟩ | ⟨hph, hf, h⟩ | hw
  · exact .inr ⟨by simp [hph], .requests hph hp (hb ▸ hlegal) h⟩
  · exact .inr ⟨by simp [hph], .refused hph (legalIn_eq_false hp hlegal hb) h⟩
  · exact .inr ⟨by simp [hph, hf], .retires h⟩
  · exact .inl hw

/-- The two primitives that move a byte: phase 1 waits on `BF` while it stands at `wait`, phase 2 on `BUSY`. -/
theorem primStep_cases_of_buffer {p : Prim} {s : State} {wait : Bool} (hp : p ≠ .waitIdle)
    (hlegal : legalIn p .owned = true)
    (hstalls : PrimStalls p s ↔ s.ph = .p1 ∧ s.bf = wait ∨ s.ph = .p2 ∧ s.busy = true)
    (hcases : (s.ph = .p0 ∧ s.busph = .owned ∧ primStep p s = request p s) ∨
      (s.ph = .p0 ∧ s.busph ≠ .owned ∧ primStep p s = refuse s) ∨
      (s.ph = .p1 ∧ s.bf = !wait ∧ primStep p s = { s with ph := .p2 }) ∨
      (s.ph = .p2 ∧ s.busy = false ∧ primStep p s = retire (collect p s)) ∨
      ((s.ph = .p1 ∧ s.bf = wait ∨ s.ph = .p2 ∧ s.busy = true) ∧ primStep p s = s)) :
    PrimStalls p s ∧ primStep p s = s ∨ ¬ PrimStalls p s ∧ PrimMoves p s := by
  rw [hstalls]
  rcases hcases with ⟨hph, hb, h⟩ | ⟨hph, hb, h⟩ | ⟨hph, hf, h⟩ | ⟨hph, hf, h⟩ | hw
  · exact .inr ⟨by simp [hph], .requests hph hp (hb ▸ hlegal) h⟩
  · exact .inr ⟨by simp [hph], .refused hph (legalIn_eq_false hp hlegal hb) h⟩
  · exact .inr ⟨by simp [hph, hf], .passes hph h⟩
  · exact .inr ⟨by simp [hph, hf], .retires h⟩
  · exact .inl hw

/-- A step of a primitive is a stutter where it stalls, and one of the four moves where it does not. -/
theorem primStep_cases (p : Prim) (s : State) :
    PrimStalls p s ∧ primStep p s = s ∨ ¬ PrimStalls p s ∧ PrimMoves p s := by
  cases p with
  | start => exact primStep_cases_of_flag (by decide) rfl Iff.rfl (phaseStart_cases s)
  | restart => exact primStep_cases_of_flag (by decide) rfl Iff.rfl (phaseRestart_cases s)
  | stop => exact primStep_cases_of_flag (by decide) rfl Iff.rfl (phaseStop_cases s)
  | ack => exact primStep_cases_of_flag (by decide) rfl Iff.rfl (phaseAck_cases s)
  | nack => exact primStep_cases_of_flag (by decide) rfl Iff.rfl (phaseNack_cases s)
  | writeByte => exact primStep_cases_of_buffer (wait := true) (by decide) rfl Iff.rfl (phaseWriteByte_cases s)
  | readByte => exact primStep_cases_of_buffer (wait := false) (by decide) rfl Iff.rfl (phaseReadByte_cases s)
  | waitIdle =>
    rcases phaseWaitIdle_cases s with ⟨hph, hf, h⟩ | hw
    · exact .inr ⟨by simp [PrimStalls, hph, hf], .retires h⟩
    · exact .inl hw

theorem primStep_of_stalls {p : Prim} {s : State} (h : PrimStalls p s) : primStep p s = s :=
  (primStep_cases p s).elim And.right fun hm => absurd h hm.1

theorem primMoves_of_not_stalls {p : Prim} {s : State} (h : ¬ PrimStalls p s) : PrimMoves p s :=
  (primStep_cases p s).elim (fun hs => absurd hs.1 h) And.right

/-! ## What a primitive's step writes -/

@[simp] theorem retire_op (s : State) : (retire s).op = none := by
  obtain ⟨post, n, h⟩ := retire_form s
  simp [h]

@[simp] theorem retire_params (s : State) : (retire s).params = s.params := by
  obtain ⟨post, n, h⟩ := retire_form s
  simp [h]

@[simp] theorem refuse_op (s : State) : (refuse s).op = none := retire_op _

@[simp] theorem refuse_params (s : State) : (refuse s).params = s.params := retire_params _

theorem request_ph {p : Prim} (hp : p ≠ .waitIdle) (s : State) : (request p s).ph = .p1 := by
  cases p with
  | waitIdle => exact absurd rfl hp
  | _ => rfl

@[simp] theorem request_params (p : Prim) (s : State) : (request p s).params = s.params := by cases p <;> rfl

@[simp] theorem collect_params (p : Prim) (s : State) : (collect p s).params = s.params := by cases p <;> rfl

/-! ## Where an agent's step is a stutter -/

theorem busy_of_not_busIdle {s : State} (h : s.busIdle = false) : s.busy = true := by
  by_contra hb
  simp [(busIdle_iff s).2 (by simpa using hb)] at h

theorem executorStep_of_op {s : State} {p : Prim} (h : s.op = some p) : executorStep s = primStep p s := by
  simp [executorStep, h]

theorem executorStep_of_none {s : State} (h : s.op = none) : executorStep s = sequencerStep s := by
  simp [executorStep, h]

/-- While a primitive is in progress the Executor's step is a stutter where the primitive stalls, and nowhere else: a
move leaves another `PH`, or clears `OP`. -/
theorem executorStep_eq_self_iff {s : State} {p : Prim} (hop : s.op = some p) :
    executorStep s = s ↔ PrimStalls p s := by
  rw [executorStep_of_op hop]
  refine ⟨fun heq => by_contra fun hn => ?_, primStep_of_stalls⟩
  have hph := congrArg State.ph heq
  have hnone := congrArg State.op heq
  cases primMoves_of_not_stalls hn with
  | requests hp0 hp _ h => simp [h, hp0, request_ph hp] at hph
  | refused _ _ h => simp [h, hop] at hnone
  | passes hp1 h => simp [h, hp1] at hph
  | retires h => simp [h, hop] at hnone

theorem executorStep_of_stalls {s : State} {p : Prim} (hop : s.op = some p) (h : PrimStalls p s) :
    executorStep s = s := (executorStep_eq_self_iff hop).2 h

/-- The Bus engine's step is a stutter exactly while nothing is owed to the bus. -/
theorem engineStep_eq_self_iff (s : State) : engineStep s = s ↔ s.busy = false := by
  constructor
  · intro heq
    rcases engineStep_cases s with ⟨hf, h⟩ | ⟨hf, h⟩ | ⟨hf, h⟩ | ⟨hf, h⟩ | ⟨hf, h⟩ | ⟨hf, h⟩ | ⟨hf, h⟩ | ⟨hf, -⟩
    · simpa [h, engineStart, hf] using congrArg State.sen heq
    · simpa [h, engineRestart, hf] using congrArg State.rsen heq
    · simpa [h, engineStop, hf] using congrArg State.pen heq
    · simpa [h, engineAck, hf] using congrArg State.acken heq
    · simpa [h, engineTxShift, hf] using congrArg State.txstat heq
    · simpa [h, engineTxAck, hf] using congrArg State.txstat heq
    · simpa [h, engineRx, hf] using congrArg State.rcen heq
    · exact hf
  · intro hb
    obtain ⟨h1, h2, h3, h4, h5, h6⟩ := (busy_eq_false_iff s).1 hb
    simp [engineStep, h1, h2, h3, h4, h5, h6]

/-! ## The microprogram's entries by kind -/

theorem microprogram_eq_idle_iff (k : Kind) (q : Fin 19) : microprogram k q = .idle ↔ q = 0 := by
  fin_cases q <;> simp [microprogram]

/-- The three acknowledge checks and the step that follows each. -/
theorem microprogram_eq_chkAck_iff (k : Kind) (q n : Fin 19) :
    microprogram k q = .chkAck n ↔ q = 3 ∧ n = 4 ∨ q = 5 ∧ n = 6 ∨ q = 8 ∧ n = 9 := by
  fin_cases q <;> simp [microprogram, eq_comm]

/-- Between primitives, inside a transaction, the Executor's step is a stutter only at a failed check under `HANG`
(41_transaction_sequencer.md R148). -/
theorem failed_check_of_sequencerStep_eq_self {s : State} (hop : s.op = none) (hq : s.seqStep ≠ 0)
    (heq : sequencerStep s = s) :
    s.params.noack = .hang ∧ s.ackstat = true ∧ (s.seqStep = 3 ∨ s.seqStep = 5 ∨ s.seqStep = 8) := by
  have hseq := congrArg State.seqStep heq
  rcases sequencerStep_cases s with ⟨hm, -⟩ | ⟨p, d, post, n, -, h⟩ | ⟨n, hm, -, h⟩ | ⟨n, hm, -, -, h⟩ |
    ⟨n, hm, ha, hn, -⟩ | ⟨hm, h⟩ | ⟨-, h⟩
  · exact absurd ((microprogram_eq_idle_iff _ _).1 hm) hq
  · simpa [h, dispatch, hop] using congrArg State.op heq
  · rcases (microprogram_eq_chkAck_iff _ _ _).1 hm with ⟨hk, rfl⟩ | ⟨hk, rfl⟩ | ⟨hk, rfl⟩ <;> simp [h, hk] at hseq
  · rcases (microprogram_eq_chkAck_iff _ _ _).1 hm with ⟨hk, -⟩ | ⟨hk, -⟩ | ⟨hk, -⟩ <;> simp [h, hk] at hseq
  · exact ⟨hn, ha, ((microprogram_eq_chkAck_iff _ _ _).1 hm).imp And.left (Or.imp And.left And.left)⟩
  · exact absurd (by simpa [h, complete] using hseq.symm) hq
  · exact absurd (by simpa [h, abortDone] using hseq.symm) hq

/-! ## No step writes the parameters -/

theorem primStep_params (p : Prim) (s : State) : (primStep p s).params = s.params := by
  rcases primStep_cases p s with ⟨-, h⟩ | ⟨-, hm⟩
  · rw [h]
  · cases hm with
    | requests _ _ _ h => simp [h]
    | refused _ _ h => simp [h]
    | passes _ h => simp [h]
    | retires h => simp [h]

theorem sequencerStep_params (s : State) : (sequencerStep s).params = s.params := by
  rcases sequencerStep_cases s with ⟨-, h⟩ | ⟨_, _, _, _, -, h⟩ | ⟨_, -, -, h⟩ | ⟨_, -, -, -, h⟩ | ⟨_, -, -, -, h⟩ |
    ⟨-, h⟩ | ⟨-, h⟩ <;> rw [h] <;> rfl

theorem engineStep_params (s : State) : (engineStep s).params = s.params := by
  rcases engineStep_cases s with ⟨-, h⟩ | ⟨-, h⟩ | ⟨-, h⟩ | ⟨-, h⟩ | ⟨-, h⟩ | ⟨-, h⟩ | ⟨-, h⟩ | ⟨-, h⟩ <;> rw [h] <;> rfl

theorem agentStep_params (a : Agent) (s : State) : (agentStep a s).params = s.params := by
  cases a with
  | executor =>
    show (executorStep s).params = s.params
    rcases executorStep_cases s with ⟨p, -, h⟩ | ⟨-, h⟩
    · rw [h, primStep_params]
    · rw [h, sequencerStep_params]
  | engine => exact engineStep_params s

theorem raiseFault_params (f : FaultBit) (s : State) : (raiseFault f s).params = s.params := by cases f <;> rfl

theorem accept_params (i : Instr) (s : State) : (accept i s).params = s.params := by
  have htrans (k : Kind) : (acceptTransaction k s).params = s.params := by
    unfold acceptTransaction
    split_ifs <;> rfl
  cases i with
  | readTemperature => exact htrans .temperature
  | readHumidity => exact htrans .humidity
  | _ => rfl

theorem popTurn_params (s : State) : s.popTurn.params = s.params := by
  unfold State.popTurn
  split <;> rfl

/-! ## Properties that every turn keeps -/

/-- What every kind of turn but reset does keeps `P`: a step of an agent of the block, the acceptance of a command at
`READY = 1`, a fault bit being set, a Host read. -/
structure KeptByTurns (P : State → Prop) : Prop where
  agent : ∀ a s, P s → P (agentStep a s)
  accept : ∀ i s, s.ready = true → P s → P (accept i s)
  fault : ∀ f s, P s → P (raiseFault f s)
  read : ∀ n s, P s → P (hostRead n s)

section
variable {P : State → Prop} (hP : KeptByTurns P)
include hP

theorem KeptByTurns.writeReg {s : State} (n : Nat) (w : Word) (h : P s) : P (writeReg n w s) := by
  unfold Machine.writeReg writeCmd
  split_ifs with hn hr
  · split
    · exact hP.accept _ _ hr h
    · exact hP.fault _ _ h
  · exact hP.fault _ _ h
  · exact h

theorem KeptByTurns.issueIllegal {s : State} (h : P s) : P (issueIllegal s) := by
  unfold Machine.issueIllegal
  split_ifs <;> exact hP.fault _ _ h

theorem KeptByTurns.exec {s t : State} (i : Instr) (h : P s) (ht : exec i s = .next t) : P t := by
  cases hr : s.ready
  · rw [exec_eq_issueCommand, issueCommand_busy _ hr] at ht
    cases ht
    exact hP.fault .ovr s h
  · rw [exec_eq_issueCommand, issueCommand_ready _ hr] at ht
    cases ht
    exact runToReady_keeps (fun s a => hP.agent a s) _ (hP.accept i s hr h)

theorem KeptByTurns.afterReady {act : State → Host.Outcome State Fault Refusal}
    (hact : ∀ u t, P u → act u = .next t → P t) {s t : State} (h : P s) (ht : afterReady act s = .next t) : P t := by
  have hw : P (waitReady s) := waitReady_keeps (fun s a => hP.agent a s) h
  cases hr : (waitReady s).ready
  · rw [afterReady_hung _ hr] at ht
    cases ht
    exact hw
  · exact hact _ _ hw (afterReady_waited act hr ▸ ht)

theorem KeptByTurns.takeTurn {s t : State} {turn : Turn} (hreset : turn = .host .reset → P (resetBlock s)) (h : P s)
    (ht : takeTurn turn s = .next t) : P t := by
  cases turn with
  | executor => cases ht; exact hP.agent .executor s h
  | engine => cases ht; exact hP.agent .engine s h
  | host act =>
    cases act with
    | reset => cases ht; exact hreset rfl
    | read n => cases ht; exact hP.read n s h
    | write n w => cases ht; exact hP.writeReg n w h
    | issue w =>
      cases hd : decode w with
      | ok i =>
        rw [takeTurn_issue hd] at ht
        exact hP.afterReady (fun _ _ => hP.exec i) h ht
      | error e =>
        rw [takeTurn_issue_illegal hd] at ht
        refine hP.afterReady (fun u v hu hv => ?_) h ht
        cases hv
        exact hP.issueIllegal hu

end

end Sys2Proof.Machine
end

section
/-!
The statements of 00_scope.md: failed polls (R7), hangs and the end of a run (R9), the parameters (R4).
-/
namespace Sys2Proof.Proofs

open Sys2Proof.Machine Sys2Proof.Safety

/-! ## Failed polls (R7) -/

/-- Settles O12: each clause's premises are a stall of its primitive. -/
theorem failedPollIsAStutter : Obligations.FailedPollIsAStutter := by
  intro s
  refine ⟨fun hp => ⟨fun ho hf => executorStep_of_stalls ho (.inl ⟨hp, hf⟩),
    fun ho hf => executorStep_of_stalls ho (.inl ⟨hp, hf⟩), fun ho hf => executorStep_of_stalls ho (.inl ⟨hp, hf⟩),
    fun ho hf => executorStep_of_stalls ho (.inl ⟨hp, hf⟩), fun ho hf => executorStep_of_stalls ho (.inl ⟨hp, hf⟩),
    fun ho hf => executorStep_of_stalls ho (.inl ⟨hp, hf⟩), fun ho hf => executorStep_of_stalls ho (.inl ⟨hp, hf⟩)⟩,
    fun hp hb ho => ?_, fun hp hb ho => executorStep_of_stalls ho (.inl ⟨hp, busy_of_not_busIdle hb⟩)⟩
  rcases ho with ho | ho
  · exact executorStep_of_stalls ho (.inr ⟨hp, busy_of_not_busIdle hb⟩)
  · exact executorStep_of_stalls ho (.inr ⟨hp, busy_of_not_busIdle hb⟩)

/-! ## Hangs (R9, 41_transaction_sequencer.md R148) -/

/-- With the invariant a primitive in progress stalls only while something is owed to the bus. -/
theorem not_primStalls_of_primShape {p : Prim} {s : State} (hs : primShape p s = true) (hb : s.busy = false) :
    ¬ PrimStalls p s := by
  obtain ⟨hsen, hrsen, hpen, hrcen, hacken, htx⟩ := (busy_eq_false_iff s).1 hb
  cases hp : s.ph with
  | p0 => cases p <;> simp [PrimStalls, hp, hb]
  | p1 =>
    cases p with
    | waitIdle => simp [primShape, hp] at hs
    | writeByte =>
      have hbf : s.bf = false := by simp_all [primShape, owes]
      simp [PrimStalls, hp, hbf]
    | readByte =>
      have hbf : s.bf = true := by simp_all [primShape, owes]
      simp [PrimStalls, hp, hbf]
    | _ => simp [PrimStalls, hp, hsen, hrsen, hpen, hacken]
  | p2 =>
    cases p with
    | writeByte | readByte => simp [PrimStalls, hp, hb]
    | _ => simp [primShape, hp] at hs

/-- Settles O39: nothing is owed to the bus, so a primitive in progress would move; what is left is a failed check. -/
theorem onlyHangIsTheMissingAcknowledge : Obligations.OnlyHangIsTheMissingAcknowledge := by
  intro s hinv ⟨hready, hstill⟩
  have hb : s.busy = false := (engineStep_eq_self_iff s).1 (hstill .engine)
  have hex : executorStep s = s := hstill .executor
  cases hop : s.op with
  | some p =>
    have hshape : primShape p s = true := by simpa [execShape, hop] using hinv.exec
    exact absurd ((executorStep_eq_self_iff hop).1 hex) (not_primStalls_of_primShape hshape hb)
  | none =>
    have hq : s.seqStep ≠ 0 := fun hq => by simp [(ready_iff s).2 ⟨hop, hq⟩] at hready
    obtain ⟨hn, ha, hk⟩ := failed_check_of_sequencerStep_eq_self hop hq (executorStep_of_none hop ▸ hex)
    exact ⟨hn, ha, rfl, hk⟩

/-! ## The end of a run (R9) -/

/-- Settles O54: `READY = 1` is `OP = 0` and `SEQ_STEP = 0`, and at `OP = 0` the invariant leaves nothing in flight. -/
theorem readyMeansIdle : Obligations.ReadyMeansIdle := by
  intro s hinv hready
  obtain ⟨hop, hq⟩ := (ready_iff s).1 hready
  obtain ⟨hbusy, hbf, hph⟩ := (execShape_none hop).1 hinv.exec
  exact ⟨hop, hq, hbusy, hbf, hph⟩

/-! ## The parameters (R4) -/

theorem keptByTurns_params (c : Params) : KeptByTurns (fun s => s.params = c) where
  agent a s h := (agentStep_params a s).trans h
  accept i s _ h := (accept_params i s).trans h
  fault f s h := (raiseFault_params f s).trans h
  read _ _ h := h

/-- Settles O57: no turn writes `params`, reset included. -/
theorem parametersAreFixed : Obligations.ParametersAreFixed := by
  intro s t ht
  have hpop : s.popTurn.params = s.params := popTurn_params s
  exact (keptByTurns_params s.params).takeTurn (fun _ => hpop) hpop ht

end Sys2Proof.Proofs
end


section
/-!
What a step of each agent leaves alone (10_state.md R21 to R38, 20_memory.md R67): the registers of the sequencer and the
sample, the bus, the fault bits, the places where the sample is written; and the register file in numbers (10_state.md
R40).
-/
namespace Sys2Proof.Machine

/-! ## The sequencer's registers and the sample -/

/-- `t` has the registers of the sequencer and of the sample, and the parameters, as `s` has them. -/
structure SameRecord (s t : State) : Prop where
  seqStep : t.seqStep = s.seqStep
  kind : t.kind = s.kind
  msb : t.msb = s.msb
  lsb : t.lsb = s.lsb
  chk : t.chk = s.chk
  raw : t.raw = s.raw
  result : t.result = s.result
  tstat : t.tstat = s.tstat
  errstep : t.errstep = s.errstep
  params : t.params = s.params

theorem SameRecord.refl (s : State) : SameRecord s s := by constructor <;> rfl

/-- What holds after each of the engine's seven steps, and without a step, holds after its step. -/
theorem engineStep_induction {P : State → Prop} (s : State) (start : P (engineStart s)) (restart : P (engineRestart s))
    (stop : P (engineStop s)) (ack : P (engineAck s)) (shift : P (engineTxShift s)) (txAck : P (engineTxAck s))
    (rx : P (engineRx s)) (idle : P s) : P (engineStep s) := by
  unfold engineStep
  split_ifs <;> assumption

theorem engineStep_sameRecord (s : State) : SameRecord s (engineStep s) := by
  apply engineStep_induction <;> constructor <;> rfl

/-- The Bus engine leaves the Executor's registers alone. -/
theorem engineStep_executor (s : State) :
    (engineStep s).op = s.op ∧ (engineStep s).opdata = s.opdata ∧ (engineStep s).ph = s.ph := by
  apply engineStep_induction (P := fun t => t.op = s.op ∧ t.opdata = s.opdata ∧ t.ph = s.ph) <;> exact ⟨rfl, rfl, rfl⟩

theorem request_sameRecord (p : Prim) (s : State) : SameRecord s (request p s) := by
  cases p <;> constructor <;> rfl

@[simp] theorem request_op (p : Prim) (s : State) : (request p s).op = s.op := by cases p <;> rfl
@[simp] theorem request_opdata (p : Prim) (s : State) : (request p s).opdata = s.opdata := by cases p <;> rfl
@[simp] theorem request_busph (p : Prim) (s : State) : (request p s).busph = s.busph := by cases p <;> rfl
@[simp] theorem request_trace (p : Prim) (s : State) : (request p s).trace = s.trace := by cases p <;> rfl
@[simp] theorem collect_busph (p : Prim) (s : State) : (collect p s).busph = s.busph := by cases p <;> rfl
@[simp] theorem collect_trace (p : Prim) (s : State) : (collect p s).trace = s.trace := by cases p <;> rfl
@[simp] theorem collect_busy (p : Prim) (s : State) : (collect p s).busy = s.busy := by cases p <;> rfl

theorem collect_sameRecord (p : Prim) (s : State) : SameRecord s (collect p s) := by
  cases p <;> constructor <;> rfl

@[simp] theorem retire_ph (s : State) : (retire s).ph = .p0 := by
  obtain ⟨post, n, h⟩ := retire_form s
  simp [h]

@[simp] theorem retire_bf (s : State) : (retire s).bf = s.bf := by
  obtain ⟨post, n, h⟩ := retire_form s
  simp [h]

@[simp] theorem retire_busph (s : State) : (retire s).busph = s.busph := by
  obtain ⟨post, n, h⟩ := retire_form s
  simp [h]

@[simp] theorem retire_busy (s : State) : (retire s).busy = s.busy := by
  obtain ⟨post, n, h⟩ := retire_form s
  simp [h, State.busy]

@[simp] theorem retire_trace (s : State) : (retire s).trace = s.trace := by
  obtain ⟨post, n, h⟩ := retire_form s
  simp [h]

@[simp] theorem retire_raw (s : State) : (retire s).raw = s.raw := by
  obtain ⟨post, n, h⟩ := retire_form s
  simp [h]

@[simp] theorem retire_result (s : State) : (retire s).result = s.result := by
  obtain ⟨post, n, h⟩ := retire_form s
  simp [h]

@[simp] theorem retire_tstat (s : State) : (retire s).tstat = s.tstat := by
  obtain ⟨post, n, h⟩ := retire_form s
  simp [h]

@[simp] theorem retire_errstep (s : State) : (retire s).errstep = s.errstep := by
  obtain ⟨post, n, h⟩ := retire_form s
  simp [h]

theorem retire_outside_sameRecord {s : State} (p : Prim) (hq : s.seqStep = 0) :
    SameRecord s (retire (collect p s)) := by
  rw [retire_outside ((collect_sameRecord p s).seqStep.trans hq)]
  cases p <;> constructor <;> rfl

theorem refuse_outside_sameRecord {s : State} (hq : s.seqStep = 0) : SameRecord s (refuse s) := by
  rw [refuse_outside hq]
  constructor <;> rfl

theorem raiseFault_sameRecord (f : FaultBit) (s : State) : SameRecord s (raiseFault f s) := by
  cases f <;> constructor <;> rfl

/-! ## The fault bits -/

/-- A sticky bit of `FAULT` (10_state.md R38). -/
def State.faultBit (f : FaultBit) (s : State) : Bool :=
  match f with
  | .illcmd => s.illcmd
  | .ovr => s.ovr
  | .proto => s.proto

theorem raiseFault_faultBit (f f' : FaultBit) (s : State) (h : s.faultBit f = true) :
    (raiseFault f' s).faultBit f = true := by
  cases f <;> cases f' <;> simp_all [State.faultBit]

/-! ## What every turn but the Bus engine's and reset leaves alone -/

/-- From `s` to `t` nothing happened on the bus: `BUSPH`, `ACKSTAT` and `TRACE` are the same, and no request flag and no
fault bit was cleared. -/
structure LeavesBus (s t : State) : Prop where
  busph : t.busph = s.busph
  ackstat : t.ackstat = s.ackstat
  trace : t.trace = s.trace
  sen : s.sen = true → t.sen = true
  rsen : s.rsen = true → t.rsen = true
  pen : s.pen = true → t.pen = true
  rcen : s.rcen = true → t.rcen = true
  acken : s.acken = true → t.acken = true
  faultBit : ∀ f, s.faultBit f = true → t.faultBit f = true

theorem LeavesBus.refl (s : State) : LeavesBus s s := by
  constructor <;> simp

theorem LeavesBus.trans {s t u : State} (h : LeavesBus s t) (h' : LeavesBus t u) : LeavesBus s u where
  busph := h'.busph.trans h.busph
  ackstat := h'.ackstat.trans h.ackstat
  trace := h'.trace.trans h.trace
  sen := h'.sen ∘ h.sen
  rsen := h'.rsen ∘ h.rsen
  pen := h'.pen ∘ h.pen
  rcen := h'.rcen ∘ h.rcen
  acken := h'.acken ∘ h.acken
  faultBit f := h'.faultBit f ∘ h.faultBit f

theorem leavesBus_retire (s : State) : LeavesBus s (retire s) := by
  obtain ⟨post, n, h⟩ := retire_form s
  rw [h]
  constructor <;> simp [State.faultBit]

theorem leavesBus_raiseFault (f : FaultBit) (s : State) : LeavesBus s (raiseFault f s) := by
  refine ⟨?_, ?_, ?_, ?_, ?_, ?_, ?_, ?_, fun f' => raiseFault_faultBit f' f s⟩ <;> cases f <;> simp

theorem leavesBus_request (p : Prim) (s : State) : LeavesBus s (request p s) := by
  cases p <;> constructor <;> simp [request, State.faultBit]

theorem leavesBus_collect (p : Prim) (s : State) : LeavesBus s (collect p s) := by
  cases p <;> constructor <;> simp [collect, State.faultBit]

theorem leavesBus_primStep (p : Prim) (s : State) : LeavesBus s (primStep p s) := by
  rcases primStep_cases p s with ⟨-, h⟩ | ⟨-, hm⟩
  · rw [h]
    exact .refl s
  · cases hm with
    | requests _ _ _ h => exact h ▸ leavesBus_request p s
    | refused _ _ h => exact h ▸ (leavesBus_raiseFault .proto s).trans (leavesBus_retire _)
    | passes _ h => exact h ▸ (by constructor <;> simp [State.faultBit])
    | retires h => exact h ▸ (leavesBus_collect p s).trans (leavesBus_retire _)

theorem leavesBus_sequencerStep (s : State) : LeavesBus s (sequencerStep s) := by
  rcases sequencerStep_cases s with ⟨-, h⟩ | ⟨_, _, _, _, -, h⟩ | ⟨_, -, -, h⟩ | ⟨_, -, -, -, h⟩ | ⟨_, -, -, -, h⟩ |
    ⟨-, h⟩ | ⟨-, h⟩ <;> rw [h] <;> constructor <;> simp [State.faultBit, dispatch, complete, abortDone]

theorem leavesBus_executorStep (s : State) : LeavesBus s (executorStep s) := by
  rcases executorStep_cases s with ⟨p, -, h⟩ | ⟨-, h⟩
  · exact h ▸ leavesBus_primStep p s
  · exact h ▸ leavesBus_sequencerStep s

/-! ## What the Bus engine leaves alone -/

/-- The Bus engine sets no request flag. -/
theorem engineStep_request {s : State} :
    ((engineStep s).sen = true → s.sen = true) ∧ ((engineStep s).rsen = true → s.rsen = true) ∧
      ((engineStep s).pen = true → s.pen = true) ∧ ((engineStep s).rcen = true → s.rcen = true) ∧
      ((engineStep s).acken = true → s.acken = true) := by
  apply engineStep_induction (P := fun t => (t.sen = true → s.sen = true) ∧ (t.rsen = true → s.rsen = true) ∧
    (t.pen = true → s.pen = true) ∧ (t.rcen = true → s.rcen = true) ∧ (t.acken = true → s.acken = true)) <;>
    simp [engineStart, engineRestart, engineStop, engineAck, engineTxShift, engineTxAck, engineRx]

theorem engineStep_faultBit (f : FaultBit) (s : State) : (engineStep s).faultBit f = s.faultBit f := by
  cases f <;> apply engineStep_induction (P := fun t => t.faultBit _ = _) <;> rfl

/-- The Bus engine appends one event to `TRACE` or none. -/
theorem engineStep_trace (s : State) : ∃ es, (engineStep s).trace = s.trace ++ es :=
  have hsame : ∃ es, s.trace = s.trace ++ es := ⟨[], (List.append_nil _).symm⟩
  engineStep_induction (P := fun t => ∃ es, t.trace = s.trace ++ es) s ⟨[_], rfl⟩ ⟨[_], rfl⟩ ⟨[_], rfl⟩ ⟨[_], rfl⟩ hsame
    ⟨[_], rfl⟩ ⟨[_], rfl⟩ hsame

/-! ## The Host's turns -/

theorem leavesBus_hostRead (n : Nat) (s : State) : LeavesBus s (hostRead n s) := by
  constructor <;> simp [State.faultBit]

theorem leavesBus_accept (i : Instr) (s : State) : LeavesBus s (accept i s) := by
  have htrans (k : Kind) : LeavesBus s (acceptTransaction k s) := by
    unfold acceptTransaction
    split_ifs
    · constructor <;> simp [State.faultBit]
    · exact leavesBus_raiseFault .proto s
  cases i with
  | readTemperature => exact htrans .temperature
  | readHumidity => exact htrans .humidity
  | _ => constructor <;> simp [accept, State.faultBit]

/-- What a write of a register by the Host can be (30_encoding.md R81, 10_state.md R42). -/
theorem writeReg_cases (n : Nat) (w : Word) (s : State) :
    writeReg n w s = s ∨ (∃ f, writeReg n w s = raiseFault f s) ∨ ∃ i, s.ready = true ∧ writeReg n w s = accept i s := by
  unfold writeReg writeCmd
  split_ifs with hn hr
  · cases decode w with
    | ok i => exact .inr (.inr ⟨i, hr, rfl⟩)
    | error e => exact .inr (.inl ⟨.illcmd, rfl⟩)
  · exact .inr (.inl ⟨.ovr, rfl⟩)
  · exact .inl rfl

theorem leavesBus_writeReg (n : Nat) (w : Word) (s : State) : LeavesBus s (writeReg n w s) := by
  rcases writeReg_cases n w s with h | ⟨f, h⟩ | ⟨i, -, h⟩
  · rw [h]
    exact .refl s
  · exact h ▸ leavesBus_raiseFault f s
  · exact h ▸ leavesBus_accept i s

/-! ## Single turns -/

theorem popTurn_form (s : State) : ∃ r k, s.popTurn = { s with agenda := r, tick := k } := by
  unfold State.popTurn
  split <;> exact ⟨_, _, rfl⟩

/-- A step that is neither a reset nor a whole program line is one agent's. -/
theorem step_single_cases {s t : State} (ht : step s = .next t) (hreset : s.nextTurn ≠ .host .reset)
    (hissue : ∀ w, s.nextTurn ≠ .host (.issue w)) :
    (s.nextTurn = .executor ∧ t = executorStep s.popTurn) ∨ (s.nextTurn = .engine ∧ t = engineStep s.popTurn) ∨
      (∃ n w, t = writeReg n w s.popTurn) ∨ ∃ n, t = hostRead n s.popTurn := by
  unfold step at ht
  cases hturn : s.nextTurn with
  | executor => rw [hturn] at ht; cases ht; exact .inl ⟨rfl, rfl⟩
  | engine => rw [hturn] at ht; cases ht; exact .inr (.inl ⟨rfl, rfl⟩)
  | host act =>
    rw [hturn] at ht
    cases act with
    | reset => exact absurd hturn hreset
    | issue w => exact absurd hturn (hissue w)
    | write n w => cases ht; exact .inr (.inr (.inl ⟨n, w, rfl⟩))
    | read n => cases ht; exact .inr (.inr (.inr ⟨n, rfl⟩))

/-! ## Where the sample is written -/

/-- From `s` to `t` the sample, and `TSTAT = OK`, are written only where 10_state.md R33 to R36 and
70_reset_and_hazards.md R218 say. -/
structure SampleAsRuled (s t : State) : Prop where
  sample : s.seqStep ≠ 16 → t.raw = s.raw ∧ t.result = s.result ∧ (t.tstat = .ok → s.tstat = .ok)
  msb : s.seqStep ≠ 9 → t.msb = s.msb
  lsb : s.seqStep ≠ 11 → t.lsb = s.lsb
  chk : s.seqStep ≠ 13 → t.chk = s.chk

theorem SameRecord.sampleAsRuled {s t : State} (h : SameRecord s t) : SampleAsRuled s t where
  sample _ := ⟨h.raw, h.result, fun ht => h.tstat ▸ ht⟩
  msb _ := h.msb
  lsb _ := h.lsb
  chk _ := h.chk

theorem microprogram_eq_done_iff (k : Kind) (q : Fin 19) : microprogram k q = .done ↔ q = 16 := by
  fin_cases q <;> simp [microprogram]

/-- The post-actions of the microprogram, and their steps (41_transaction_sequencer.md R143). -/
theorem microprogram_post {k : Kind} {q n : Fin 19} {p : Prim} {d : Byte} {post : Post}
    (hm : microprogram k q = .prim p d post n) :
    (post = .msb → q = 9) ∧ (post = .lsb → q = 11) ∧ (post = .chk → q = 13) := by
  fin_cases q <;> simp [microprogram] at hm <;> obtain ⟨-, -, rfl, -⟩ := hm <;> decide

theorem sampleAsRuled_retire {s u : State} (h : SameRecord s u) : SampleAsRuled s (retire u) := by
  have hpost : (s.seqStep ≠ 9 → (retire u).msb = u.msb) ∧ (s.seqStep ≠ 11 → (retire u).lsb = u.lsb) ∧
      (s.seqStep ≠ 13 → (retire u).chk = u.chk) := by
    cases hm : microprogram u.kind u.seqStep with
    | prim p d post n =>
      have hq := microprogram_post hm
      rw [retire_inside hm]
      cases post <;> simp_all [doPost, h.seqStep]
    | _ => simp [retire, advanceSeq, hm]
  obtain ⟨hmsb, hlsb, hchk⟩ := hpost
  exact ⟨fun _ => by simp [h.raw, h.result, h.tstat], fun hq => (hmsb hq).trans h.msb,
    fun hq => (hlsb hq).trans h.lsb, fun hq => (hchk hq).trans h.chk⟩

theorem sampleAsRuled_primStep (p : Prim) (s : State) : SampleAsRuled s (primStep p s) := by
  rcases primStep_cases p s with ⟨-, h⟩ | ⟨-, hm⟩
  · rw [h]
    exact (SameRecord.refl s).sampleAsRuled
  · cases hm with
    | requests _ _ _ h => exact h ▸ (request_sameRecord p s).sampleAsRuled
    | refused _ _ h => exact h ▸ sampleAsRuled_retire (raiseFault_sameRecord .proto s)
    | passes _ h => exact h ▸ SameRecord.sampleAsRuled (by constructor <;> rfl)
    | retires h => exact h ▸ sampleAsRuled_retire (collect_sameRecord p s)

theorem sampleAsRuled_sequencerStep (s : State) : SampleAsRuled s (sequencerStep s) := by
  rcases sequencerStep_cases s with ⟨-, h⟩ | ⟨p, d, _, _, -, h⟩ | ⟨n, -, -, h⟩ | ⟨_, -, -, -, h⟩ | ⟨_, -, -, -, h⟩ |
    ⟨hm, h⟩ | ⟨-, h⟩ <;> rw [h]
  · exact (SameRecord.refl s).sampleAsRuled
  · exact SameRecord.sampleAsRuled (by constructor <;> rfl)
  · exact ⟨fun _ => ⟨rfl, rfl, id⟩, fun _ => rfl, fun _ => rfl, fun _ => rfl⟩
  · exact ⟨fun _ => ⟨rfl, rfl, id⟩, fun _ => rfl, fun _ => rfl, fun _ => rfl⟩
  · exact (SameRecord.refl s).sampleAsRuled
  · exact ⟨fun hq => absurd ((microprogram_eq_done_iff _ _).1 hm) hq, fun _ => rfl, fun _ => rfl, fun _ => rfl⟩
  · exact ⟨fun _ => ⟨rfl, rfl, TStat.noConfusion⟩, fun _ => rfl, fun _ => rfl, fun _ => rfl⟩

theorem sampleAsRuled_executorStep (s : State) : SampleAsRuled s (executorStep s) := by
  rcases executorStep_cases s with ⟨p, -, h⟩ | ⟨-, h⟩
  · exact h ▸ sampleAsRuled_primStep p s
  · exact h ▸ sampleAsRuled_sequencerStep s

theorem sampleAsRuled_accept (i : Instr) (s : State) : SampleAsRuled s (accept i s) := by
  have htrans (k : Kind) : SampleAsRuled s (acceptTransaction k s) := by
    unfold acceptTransaction
    split_ifs
    · exact ⟨fun _ => ⟨rfl, rfl, TStat.noConfusion⟩, fun _ => rfl, fun _ => rfl, fun _ => rfl⟩
    · exact (raiseFault_sameRecord .proto s).sampleAsRuled
  cases i with
  | readTemperature => exact htrans .temperature
  | readHumidity => exact htrans .humidity
  | _ => exact SameRecord.sampleAsRuled (by constructor <;> rfl)

theorem sampleAsRuled_writeReg (n : Nat) (w : Word) (s : State) : SampleAsRuled s (writeReg n w s) := by
  rcases writeReg_cases n w s with h | ⟨f, h⟩ | ⟨i, -, h⟩
  · rw [h]
    exact (SameRecord.refl s).sampleAsRuled
  · exact h ▸ (raiseFault_sameRecord f s).sampleAsRuled
  · exact h ▸ sampleAsRuled_accept i s

/-! ## What every turn keeps -/

/-- `BUSPH` becomes `ACKOWED` only by the completion of a receive. -/
theorem rcen_of_engineStep_ackOwed {s : State} (hb : s.busph ≠ .ackOwed) (h : (engineStep s).busph = .ackOwed) :
    s.rcen = true := by
  rcases engineStep_cases s with ⟨-, he⟩ | ⟨-, he⟩ | ⟨-, he⟩ | ⟨-, he⟩ | ⟨-, he⟩ | ⟨-, he⟩ | ⟨hr, -⟩ | ⟨-, he⟩
  case inr.inr.inr.inr.inr.inr.inl => exact hr
  all_goals simp [he, engineStart, engineRestart, engineStop, engineAck, engineTxShift, engineTxAck, hb] at h

theorem keptByTurns_faultBit (f : FaultBit) : KeptByTurns (fun s => s.faultBit f = true) where
  agent a s h := by
    cases a with
    | executor => exact (leavesBus_executorStep s).faultBit f h
    | engine => exact (engineStep_faultBit f s).trans h
  accept i s _ h := (leavesBus_accept i s).faultBit f h
  fault f' s h := (leavesBus_raiseFault f' s).faultBit f h
  read n s h := (leavesBus_hostRead n s).faultBit f h

theorem keptByTurns_trace (before : List BusEvent) : KeptByTurns (fun s => ∃ es, s.trace = before ++ es) where
  agent a s := by
    rintro ⟨es, h⟩
    cases a with
    | executor => exact ⟨es, (leavesBus_executorStep s).trace.trans h⟩
    | engine =>
      obtain ⟨es', h'⟩ := engineStep_trace s
      exact ⟨es ++ es', by rw [agentStep, h', h, List.append_assoc]⟩
  accept i s _ h := by rwa [(leavesBus_accept i s).trace]
  fault f s h := by rwa [(leavesBus_raiseFault f s).trace]
  read n s h := h

theorem popTurn_faultBit (f : FaultBit) (s : State) : s.popTurn.faultBit f = s.faultBit f := by
  obtain ⟨r, k, h⟩ := popTurn_form s
  rw [h]
  cases f <;> rfl

theorem popTurn_trace (s : State) : s.popTurn.trace = s.trace := by
  obtain ⟨r, k, h⟩ := popTurn_form s
  rw [h]

/-! ## The register file in numbers -/

/-- A register's fields side by side, in numbers. -/
theorem toNat_append_eq_add {n m : Nat} (x : BitVec n) (y : BitVec m) :
    (x ++ y).toNat = x.toNat * 2 ^ m + y.toNat := by
  rw [BitVec.toNat_append, Nat.shiftLeft_eq, Nat.mul_comm, ← Nat.two_pow_add_eq_or_of_lt y.isLt]

@[simp] theorem bit_toNat (b : Bool) : (bit b).toNat = b.toNat := by cases b <;> rfl

@[simp] theorem stepCode_toNat (k : Fin 19) : (stepCode k).toNat = k.val := Nat.mod_eq_of_lt (by omega)

/-- Numbers from 12 name no register (10_state.md R40). -/
theorem readReg_of_ge {n : Nat} (h : 12 ≤ n) (s : State) : readReg n s = 0 := by
  unfold readReg
  split <;> simp_all

theorem writeReg_of_ne {n : Nat} (h : n ≠ 0) (w : Word) (s : State) : writeReg n w s = s := if_neg h

end Sys2Proof.Machine
end

section
/-!
The invariant of 10_state.md R43: what can be owed to the bus, what a primitive in progress can do, which bus phase a step
of the microprogram begins in; every turn keeps the invariant, and the items of R43 follow from it.
-/
namespace Sys2Proof.Safety

open Sys2Proof.Machine

theorem owes_iff (s : State) (sen rsen pen rcen acken : Bool) (t : TxStat) :
    owes s sen rsen pen rcen acken t = true ↔
      s.sen = sen ∧ s.rsen = rsen ∧ s.pen = pen ∧ s.rcen = rcen ∧ s.acken = acken ∧ s.txstat = t := by
  simp [owes, and_assoc]

/-! ## What is owed to the bus -/

/-- What can be owed to the bus in a state of the invariant, with the primitive that requested it. -/
inductive InFlight (s : State) : Prop where
  | start (hop : s.op = some .start) (hph : s.ph = .p1) (hbus : s.busph = .free) (hbf : s.bf = false)
      (howes : owes s true false false false false .idle = true)
  | restart (hop : s.op = some .restart) (hph : s.ph = .p1) (hbus : s.busph = .owned) (hbf : s.bf = false)
      (howes : owes s false true false false false .idle = true)
  | stop (hop : s.op = some .stop) (hph : s.ph = .p1) (hbus : s.busph = .owned) (hbf : s.bf = false)
      (howes : owes s false false true false false .idle = true)
  | acknowledge (hop : s.op = some (if s.ackdt then .nack else .ack)) (hph : s.ph = .p1) (hbus : s.busph = .ackOwed)
      (hbf : s.bf = false) (howes : owes s false false false false true .idle = true)
  | shift (hop : s.op = some .writeByte) (hph : s.ph = .p1) (hbus : s.busph = .owned) (hbuf : s.buf = s.opdata)
      (hbf : s.bf = true) (howes : owes s false false false false false .shift = true)
  | ackWait (hop : s.op = some .writeByte) (hph : s.ph = .p1 ∨ s.ph = .p2) (hbus : s.busph = .owned)
      (hbuf : s.buf = s.opdata) (hbf : s.bf = false) (howes : owes s false false false false false .ackWait = true)
  | receive (hop : s.op = some .readByte) (hph : s.ph = .p1) (hbus : s.busph = .owned) (hbf : s.bf = false)
      (howes : owes s false false false true false .idle = true)

theorem inFlight_of_busy {s : State} (h : execShape s = true) (hb : s.busy = true) : InFlight s := by
  have hn : owesNothing s = false := by
    by_contra hne
    simp [(owesNothing_iff s).1 (by simpa using hne)] at hb
  cases hop : s.op with
  | none => simp [execShape, hop, hn] at h
  | some p =>
    replace h : primShape p s = true := by simpa [execShape, hop] using h
    cases hph : s.ph with
    | p0 => simp [primShape, hph, hn] at h
    | p1 =>
      cases p <;> simp [primShape, hph, hn] at h
      case start =>
        obtain ⟨hbf, ho, hbus⟩ := h
        exact .start hop hph hbus hbf ho
      case restart =>
        obtain ⟨⟨hbf, hbus⟩, ho⟩ := h
        exact .restart hop hph hbus hbf ho
      case stop =>
        obtain ⟨hbf, ho, hbus⟩ := h
        exact .stop hop hph hbus hbf ho
      case ack | nack =>
        obtain ⟨⟨hbf, hdt⟩, ho, hbus⟩ := h
        exact .acknowledge (by simp [hop, hdt]) hph hbus hbf ho
      case writeByte =>
        obtain ⟨⟨hbuf, hbus⟩, ⟨ho, hbf⟩ | ⟨ho, hbf⟩⟩ := h
        · exact .shift hop hph hbus hbuf hbf ho
        · exact .ackWait hop (.inl hph) hbus hbuf hbf ho
      case readByte =>
        obtain ⟨⟨ho, hbus⟩, hbf⟩ := h
        exact .receive hop hph hbus hbf ho
    | p2 =>
      cases p <;> simp [primShape, hph, hn] at h
      case writeByte =>
        obtain ⟨⟨⟨hbuf, hbus⟩, hbf⟩, ho⟩ := h
        exact .ackWait hop (.inr hph) hbus hbuf hbf ho

/-! ## From one state of the invariant to the next -/

/-- Once a primitive has left phase 0 the sequencer's part of the invariant does not look at the bus. -/
theorem seqShape_inProgress {s t : State} {p : Prim} (h : seqShape s = true) (hst : SameRecord s t)
    (hop : s.op = some p) (hop' : t.op = s.op) (hdata : t.opdata = s.opdata) (hph : t.ph ≠ .p0) :
    seqShape t = true := by
  simp only [seqShape, hst.seqStep, hst.kind, hst.tstat, hst.errstep, hop', hdata, hop] at h ⊢
  cases hm : microprogram s.kind s.seqStep <;> simp_all

theorem lastIsGot_congr {s t : State} (h : t.trace = s.trace) : lastIsGot t = lastIsGot s := by
  simp only [lastIsGot, h]

/-- A step that leaves the sequencer's registers and the sample alone has the bus and the Executor to answer for. -/
theorem inv_of_sameRecord {s t : State} (h : Inv s) (hst : SameRecord s t) (hexec : execShape t = true)
    (hseq : seqShape t = true) (hack : t.busph = .ackOwed → lastIsGot t = true) : Inv t where
  exec := hexec
  seq := hseq
  errstep := by simpa only [errstepLegal, hst.errstep] using h.errstep
  sample := by
    simpa only [sampleShape, hst.tstat, hst.raw, hst.msb, hst.lsb, hst.result, hst.kind, hst.params] using h.sample
  rawMask := by simpa only [hst.raw] using h.rawMask
  resultWidth := by simpa only [hst.result, hst.params] using h.resultWidth
  ackOwed := hack

/-! ## The Bus engine's steps -/

theorem inFlight_op {s : State} (h : InFlight s) : ∃ p, s.op = some p := by
  cases h <;> exact ⟨_, by assumption⟩

theorem inFlight_ph {s : State} (h : InFlight s) : s.ph ≠ .p0 := by
  cases h with
  | ackWait _ hph => rcases hph with hph | hph <;> simp [hph]
  | _ => simp_all

/-- The engine's step brings what is owed to its next stage, or to its end. -/
theorem inFlight_engineStep {s : State} (h : InFlight s) :
    execShape (engineStep s) = true ∧ ((engineStep s).busph = .ackOwed → lastIsGot (engineStep s) = true) := by
  cases h with
  | start hop hph hbus hbf howes =>
    simp only [owes_iff] at howes
    simp_all [engineStep, engineStart, execShape, primShape, owesNothing, owes]
  | restart hop hph hbus hbf howes =>
    simp only [owes_iff] at howes
    simp_all [engineStep, engineRestart, execShape, primShape, owesNothing, owes]
  | stop hop hph hbus hbf howes =>
    simp only [owes_iff] at howes
    simp_all [engineStep, engineStop, execShape, primShape, owesNothing, owes]
  | acknowledge hop hph hbus hbf howes =>
    simp only [owes_iff] at howes
    cases hdt : s.ackdt <;> simp_all [engineStep, engineAck, execShape, primShape, owesNothing, owes]
  | shift hop hph hbus hbuf hbf howes =>
    simp only [owes_iff] at howes
    simp_all [engineStep, engineTxShift, execShape, primShape, owesNothing, owes]
  | ackWait hop hph hbus hbuf hbf howes =>
    simp only [owes_iff] at howes
    rcases hph with hph | hph <;> simp_all [engineStep, engineTxAck, execShape, primShape, owesNothing, owes]
  | receive hop hph hbus hbf howes =>
    simp only [owes_iff] at howes
    simp_all [engineStep, engineRx, execShape, primShape, owesNothing, owes, lastIsGot]

theorem inv_engineStep {s : State} (h : Inv s) : Inv (engineStep s) := by
  cases hb : s.busy with
  | false => rwa [(engineStep_eq_self_iff s).2 hb]
  | true =>
    have hf := inFlight_of_busy h.exec hb
    obtain ⟨p, hop⟩ := inFlight_op hf
    obtain ⟨hexec, hack⟩ := inFlight_engineStep hf
    obtain ⟨hop', hdata, hph⟩ := engineStep_executor s
    have hst := engineStep_sameRecord s
    exact inv_of_sameRecord h hst hexec
      (seqShape_inProgress h.seq hst hop hop' hdata (hph ▸ inFlight_ph hf)) hack

/-! ## The steps of a primitive -/

/-- The bus phase a primitive leaves behind; `WAIT_IDLE` leaves the one it finds. -/
def busphAfter : Prim → Option BusPhase
  | .start | .restart | .ack | .nack | .writeByte => some .owned
  | .stop => some .free
  | .readByte => some .ackOwed
  | .waitIdle => none

/-- What an Executor step of a primitive in progress can be in a state of the invariant. -/
inductive PrimProgress (p : Prim) (s : State) : Prop where
  | waits (h : primStep p s = s)
  | requests (hph : s.ph = .p0) (hlegal : legalIn p s.busph = true) (hp : p ≠ .waitIdle)
      (h : primStep p s = request p s)
  | refused (hph : s.ph = .p0) (hlegal : legalIn p s.busph = false) (h : primStep p s = refuse s)
  | passes (hshape : primShape p { s with ph := .p2 } = true) (h : primStep p s = { s with ph := .p2 })
  | retires (hbusy : s.busy = false) (hbf : (collect p s).bf = false) (hbus : ∀ b ∈ busphAfter p, s.busph = b)
      (h : primStep p s = retire (collect p s))

/-- The five primitives that request one bus event. -/
theorem primProgress_of_flag {p : Prim} {s : State} {b : BusPhase} {flag : Bool} (hp : p ≠ .waitIdle)
    (hlegal : legalIn p b = true)
    (hcases : (s.ph = .p0 ∧ s.busph = b ∧ primStep p s = request p s) ∨
      (s.ph = .p0 ∧ s.busph ≠ b ∧ primStep p s = refuse s) ∨
      (s.ph = .p1 ∧ flag = false ∧ primStep p s = retire (collect p s)) ∨
      ((s.ph = .p1 ∧ flag = true ∨ s.ph = .p2) ∧ primStep p s = s))
    (hdone : s.ph = .p1 → flag = false →
      s.busy = false ∧ (collect p s).bf = false ∧ ∀ b ∈ busphAfter p, s.busph = b) :
    PrimProgress p s := by
  rcases hcases with ⟨hph, hb, h⟩ | ⟨hph, hb, h⟩ | ⟨hph, hf, h⟩ | ⟨-, h⟩
  · exact .requests hph (hb ▸ hlegal) hp h
  · exact .refused hph (legalIn_eq_false hp hlegal hb) h
  · obtain ⟨hbusy, hbf, hbus⟩ := hdone hph hf
    exact .retires hbusy hbf hbus h
  · exact .waits h

theorem primProgress_of_primShape {p : Prim} {s : State} (hs : primShape p s = true) : PrimProgress p s := by
  cases p with
  | start =>
    refine primProgress_of_flag (by decide) rfl (phaseStart_cases s) fun hph hf => ?_
    simp_all [primShape, owes_iff, owesNothing_iff, collect, busphAfter]
  | restart =>
    refine primProgress_of_flag (by decide) rfl (phaseRestart_cases s) fun hph hf => ?_
    simp_all [primShape, owes_iff, owesNothing_iff, collect, busphAfter]
  | stop =>
    refine primProgress_of_flag (by decide) rfl (phaseStop_cases s) fun hph hf => ?_
    simp_all [primShape, owes_iff, owesNothing_iff, collect, busphAfter]
  | ack =>
    refine primProgress_of_flag (by decide) rfl (phaseAck_cases s) fun hph hf => ?_
    simp_all [primShape, owes_iff, owesNothing_iff, collect, busphAfter]
  | nack =>
    refine primProgress_of_flag (by decide) rfl (phaseNack_cases s) fun hph hf => ?_
    simp_all [primShape, owes_iff, owesNothing_iff, collect, busphAfter]
  | waitIdle =>
    rcases phaseWaitIdle_cases s with ⟨hph, hb, h⟩ | ⟨-, h⟩
    · exact .retires hb ((primShape_p0 _ hph).1 hs).2 (by simp [busphAfter]) h
    · exact .waits h
  | writeByte =>
    rcases phaseWriteByte_cases s with ⟨hph, hb, h⟩ | ⟨hph, hb, h⟩ | ⟨hph, hbf, h⟩ | ⟨hph, hb, h⟩ | ⟨-, h⟩
    · exact .requests hph (by simp [hb, legalIn]) (by decide) h
    · exact .refused hph (legalIn_eq_false (by decide) (c := .owned) rfl hb) h
    · refine .passes ?_ h
      simp_all [primShape, owes, owesNothing]
    · have hq : s.bf = false ∧ s.busph = .owned := by simp_all [primShape]
      exact .retires hb hq.1 (by simp [busphAfter, hq.2]) h
    · exact .waits h
  | readByte =>
    rcases phaseReadByte_cases s with ⟨hph, hb, h⟩ | ⟨hph, hb, h⟩ | ⟨hph, hbf, h⟩ | ⟨hph, hb, h⟩ | ⟨-, h⟩
    · exact .requests hph (by simp [hb, legalIn]) (by decide) h
    · exact .refused hph (legalIn_eq_false (by decide) (c := .owned) rfl hb) h
    · refine .passes ?_ h
      simp_all [primShape, owes, owesNothing]
    · have hq : s.busph = .ackOwed := by simp_all [primShape]
      exact .retires hb rfl (by simp [busphAfter, hq]) h
    · exact .waits h

/-! ## The microprogram -/

/-- Each primitive of the microprogram is legal where its step begins and leaves the bus as the next step needs it
(41_transaction_sequencer.md R144); the abort path is entered by a failed check alone. -/
theorem microprogram_prim_bus {k : Kind} {q n : Fin 19} {p : Prim} {d : Byte} {post : Post}
    (hm : microprogram k q = .prim p d post n) :
    legalIn p (phaseBefore q) = true ∧ busphAfter p = some (phaseBefore n) ∧ n ≠ 0 ∧ (n = 17 ∨ n = 18 ↔ q = 17) := by
  fin_cases q <;> simp [microprogram] at hm <;> obtain ⟨rfl, -, -, rfl⟩ := hm <;> decide

/-- The sequencer's part of the invariant where a step of a transaction begins. -/
theorem seqShape_entered {s : State} (hq : s.seqStep ≠ 0) (hop : s.op = none) (ht : s.tstat = .none)
    (he : s.errstep ≠ 0 ↔ s.seqStep = 17 ∨ s.seqStep = 18) (hbus : s.busph = phaseBefore s.seqStep) :
    seqShape s = true := by
  unfold seqShape
  generalize s.seqStep = q at *
  fin_cases q <;> simp_all [microprogram]

theorem bne_eq_beq_iff {α β : Type} [DecidableEq α] [DecidableEq β] {a b : α} {c d : β} :
    (a != b) = (c == d) ↔ (a ≠ b ↔ c = d) := by
  rw [← Bool.coe_iff_coe, bne_iff_ne, beq_iff_eq]

theorem seqShape_outside {s : State} (hq : s.seqStep = 0) :
    seqShape s = true ↔ (s.errstep ≠ 0 ↔ s.tstat = .noack) := by
  simp [seqShape, hq, eq_comm (b := _ != _), bne_eq_beq_iff]

theorem seqShape_prim_iff {s : State} {p : Prim} {d : Byte} {post : Post} {n : Fin 19}
    (hm : microprogram s.kind s.seqStep = .prim p d post n) :
    seqShape s = true ↔ s.tstat = .none ∧ (s.errstep ≠ 0 ↔ s.seqStep = 17) ∧
      (s.op = none ∧ s.busph = phaseBefore s.seqStep ∨
        s.op = some p ∧ s.opdata = d ∧ (s.ph = .p0 → s.busph = phaseBefore s.seqStep)) := by
  simp [seqShape, hm, and_assoc, bne_eq_beq_iff, imp_iff_not_or]

/-! ## Every step of a primitive keeps the invariant -/

/-- `BUSPH` and `TRACE` unchanged: an acknowledge that is owed is owed for the byte just received. -/
theorem ackOwed_congr {s t : State} (h : Inv s) (hbus : t.busph = s.busph) (htrace : t.trace = s.trace) :
    t.busph = .ackOwed → lastIsGot t = true := by
  rw [hbus, lastIsGot_congr htrace]
  exact h.ackOwed

/-- Outside a transaction the invariant is the Executor's part. -/
theorem inv_outside {s t : State} (h : Inv s) (hq : s.seqStep = 0) (hst : SameRecord s t) (hexec : execShape t = true)
    (hbus : t.busph = s.busph) (htrace : t.trace = s.trace) : Inv t := by
  refine inv_of_sameRecord h hst hexec ((seqShape_outside (hst.seqStep.trans hq)).2 ?_) (ackOwed_congr h hbus htrace)
  rw [hst.errstep, hst.tstat]
  exact (seqShape_outside hq).1 h.seq

theorem execShape_retire {s : State} (hb : s.busy = false) (hbf : s.bf = false) : execShape (retire s) = true :=
  (execShape_none (retire_op s)).2 (by simp [hb, hbf])

theorem sampleShape_of_tstat {s : State} (h : s.tstat ≠ .ok) : sampleShape s = true := by
  simp [sampleShape, h]

/-- With a primitive in progress the microprogram is at that primitive, or no transaction runs. -/
theorem microprogram_of_seqShape {s : State} {p : Prim} (h : seqShape s = true) (hop : s.op = some p) :
    s.seqStep = 0 ∨ ∃ d post n, microprogram s.kind s.seqStep = .prim p d post n := by
  cases hm : microprogram s.kind s.seqStep with
  | idle => exact .inl ((microprogram_eq_idle_iff _ _).1 hm)
  | prim p' d post n =>
    obtain ⟨-, -, ⟨hnone, -⟩ | ⟨hsome, -⟩⟩ := (seqShape_prim_iff hm).1 h
    · simp [hop] at hnone
    · obtain rfl : p = p' := by simpa [hop] using hsome
      exact .inr ⟨d, post, n, rfl⟩
  | _ => simp [seqShape, hm, hop] at h

/-- Retirement inside a transaction leaves the state in which the microprogram's next step begins. -/
theorem inv_retire_inside {s : State} {p : Prim} {d : Byte} {post : Post} {n : Fin 19} (h : Inv s)
    (hm : microprogram s.kind s.seqStep = .prim p d post n) (hbusy : s.busy = false)
    (hbf : (collect p s).bf = false) (hbus : ∀ b ∈ busphAfter p, s.busph = b) : Inv (retire (collect p s)) := by
  obtain ⟨-, hafter, hn, h17⟩ := microprogram_prim_bus hm
  obtain ⟨ht, he, -⟩ := (seqShape_prim_iff hm).1 h.seq
  have hst := collect_sameRecord p s
  have hnext : (retire (collect p s)).seqStep = n := by
    rw [retire_inside (by rwa [hst.kind, hst.seqStep])]
  refine ⟨execShape_retire (by simpa using hbusy) hbf, ?_, ?_, sampleShape_of_tstat ?_, ?_, ?_,
    ackOwed_congr h (by simp) (by simp)⟩
  · refine seqShape_entered (by rwa [hnext]) (retire_op _) ?_ ?_ ?_
    · simp [hst.tstat, ht]
    · simp [hst.errstep, hnext, h17, ← he]
    · simp [hnext, hbus _ hafter]
  · simpa [errstepLegal, hst.errstep] using h.errstep
  · simp [hst.tstat, ht]
  · simpa [hst.raw] using h.rawMask
  · simpa [hst.result, hst.params] using h.resultWidth

theorem inv_retire {s : State} {p : Prim} (h : Inv s) (hop : s.op = some p) (hbusy : s.busy = false)
    (hbf : (collect p s).bf = false) (hbus : ∀ b ∈ busphAfter p, s.busph = b) : Inv (retire (collect p s)) := by
  rcases microprogram_of_seqShape h.seq hop with hq | ⟨d, post, n, hm⟩
  · exact inv_outside h hq (retire_outside_sameRecord p hq) (execShape_retire (by simpa using hbusy) hbf) (by simp)
      (by simp)
  · exact inv_retire_inside h hm hbusy hbf hbus

/-- Inside a transaction no primitive is refused (41_transaction_sequencer.md R144). -/
theorem seqStep_eq_zero_of_illegal {s : State} {p : Prim} (h : seqShape s = true) (hop : s.op = some p)
    (hph : s.ph = .p0) (hlegal : legalIn p s.busph = false) : s.seqStep = 0 := by
  refine (microprogram_of_seqShape h hop).resolve_right ?_
  rintro ⟨d, post, n, hm⟩
  obtain ⟨-, -, ⟨hnone, -⟩ | ⟨-, -, hbus⟩⟩ := (seqShape_prim_iff hm).1 h
  · simp [hop] at hnone
  · simp [hbus hph, (microprogram_prim_bus hm).1] at hlegal

theorem inv_refuse {s : State} {p : Prim} (h : Inv s) (hop : s.op = some p) (hph : s.ph = .p0)
    (hlegal : legalIn p s.busph = false) : Inv (refuse s) := by
  have hq := seqStep_eq_zero_of_illegal h.seq hop hph hlegal
  obtain ⟨hbusy, hbf⟩ := (primShape_p0 p hph).1 (by simpa [execShape, hop] using h.exec)
  exact inv_outside h hq (refuse_outside_sameRecord hq) (execShape_retire hbusy hbf) (retire_busph _) (retire_trace _)

theorem primShape_request {p : Prim} {s : State} (hp : p ≠ .waitIdle) (hlegal : legalIn p s.busph = true)
    (hbusy : s.busy = false) (hbf : s.bf = false) : primShape p (request p s) = true := by
  rw [busy_eq_false_iff] at hbusy
  cases p with
  | waitIdle => exact absurd rfl hp
  | _ => cases hb : s.busph <;> simp_all [legalIn, request, primShape, owes]

theorem inv_request {s : State} {p : Prim} (h : Inv s) (hop : s.op = some p) (hph : s.ph = .p0) (hp : p ≠ .waitIdle)
    (hlegal : legalIn p s.busph = true) : Inv (request p s) := by
  obtain ⟨hbusy, hbf⟩ := (primShape_p0 p hph).1 (by simpa [execShape, hop] using h.exec)
  have hst := request_sameRecord p s
  refine inv_of_sameRecord h hst ?_ (seqShape_inProgress h.seq hst hop (by simp) (by simp) ?_)
    (ackOwed_congr h (by simp) (by simp))
  · simpa [execShape, hop] using primShape_request hp hlegal hbusy hbf
  · simp [request_ph hp]

theorem inv_pass {s : State} {p : Prim} (h : Inv s) (hop : s.op = some p)
    (hshape : primShape p { s with ph := .p2 } = true) : Inv { s with ph := .p2 } := by
  have hst : SameRecord s { s with ph := .p2 } := by constructor <;> rfl
  exact inv_of_sameRecord h hst (by simpa [execShape, hop] using hshape)
    (seqShape_inProgress h.seq hst hop rfl rfl Phase.noConfusion) h.ackOwed

theorem inv_primStep {s : State} {p : Prim} (h : Inv s) (hop : s.op = some p) : Inv (primStep p s) := by
  cases primProgress_of_primShape (by simpa [execShape, hop] using h.exec : primShape p s = true) with
  | waits heq => rwa [heq]
  | requests hph hlegal hp heq => exact heq ▸ inv_request h hop hph hp hlegal
  | refused hph hlegal heq => exact heq ▸ inv_refuse h hop hph hlegal
  | passes hshape heq => exact heq ▸ inv_pass h hop hshape
  | retires hbusy hbf hbus heq => exact heq ▸ inv_retire h hop hbusy hbf hbus

/-! ## The sequencer -/

theorem execShape_of_none {s t : State} (h : execShape s = true) (hop : s.op = none) (hop' : t.op = none)
    (hbusy : t.busy = s.busy) (hbf : t.bf = s.bf) (hph : t.ph = s.ph) : execShape t = true := by
  rw [execShape_none hop', hbusy, hbf, hph]
  exact (execShape_none hop).1 h

theorem inv_dispatch {s : State} {p : Prim} {d : Byte} {post : Post} {n : Fin 19} (h : Inv s) (hop : s.op = none)
    (hm : microprogram s.kind s.seqStep = .prim p d post n) : Inv (dispatch p d s) := by
  obtain ⟨hbusy, hbf, -⟩ := (execShape_none hop).1 h.exec
  obtain ⟨ht, he, ⟨-, hbus⟩ | ⟨hsome, -⟩⟩ := (seqShape_prim_iff hm).1 h.seq
  · refine ⟨?_, ?_, h.errstep, h.sample, h.rawMask, h.resultWidth, h.ackOwed⟩
    · exact (primShape_p0 (s := dispatch p d s) p rfl).2 ⟨hbusy, hbf⟩
    · exact (seqShape_prim_iff (s := dispatch p d s) hm).2 ⟨ht, he, .inr ⟨rfl, rfl, fun _ => hbus⟩⟩
  · simp [hop] at hsome

theorem assembleRaw_eq (m l : Byte) : assembleRaw m l = (m ++ l) &&& 0xFFFC := by
  ext i hi
  simp only [assembleRaw, Config.lsbMask, BitVec.getElem_or, BitVec.getElem_and, BitVec.getElem_append]
  interval_cases i <;> simp

theorem assembleRaw_mask (m l : Byte) : assembleRaw m l &&& 3 = 0 := by
  rw [assembleRaw_eq, BitVec.and_assoc]
  simp

theorem decodeBits_lt (f : FloatFmt) (k : Kind) (raw : Word) : decodeBits f k raw < 2 ^ f.width :=
  Nat.mod_lt _ (Nat.two_pow_pos _)

/-- At an acknowledge check nothing of the transaction has failed yet, and the bus is owned. -/
theorem seqShape_check {s : State} {n : Fin 19} (hm : microprogram s.kind s.seqStep = .chkAck n)
    (h : seqShape s = true) : s.tstat = .none ∧ s.errstep = 0 ∧ s.busph = .owned := by
  rcases (microprogram_eq_chkAck_iff _ _ _).1 hm with ⟨hq, -⟩ | ⟨hq, -⟩ | ⟨hq, -⟩ <;>
    simp_all [seqShape, phaseBefore]

/-- 41_transaction_sequencer.md R145, the byte was acknowledged. -/
theorem inv_check_passed {s : State} {n : Fin 19} (h : Inv s) (hop : s.op = none)
    (hm : microprogram s.kind s.seqStep = .chkAck n) : Inv { s with seqStep := n } := by
  obtain ⟨ht, he, hbus⟩ := seqShape_check hm h.seq
  refine ⟨execShape_of_none h.exec hop hop rfl rfl rfl, ?_, h.errstep, h.sample, h.rawMask, h.resultWidth, h.ackOwed⟩
  rcases (microprogram_eq_chkAck_iff _ _ _).1 hm with ⟨-, rfl⟩ | ⟨-, rfl⟩ | ⟨-, rfl⟩ <;>
    exact seqShape_entered (by simp) hop ht (by simp [he]) hbus

/-- R145, the byte was not acknowledged, under `ABORT`. -/
theorem inv_check_failed {s : State} {n : Fin 19} (h : Inv s) (hop : s.op = none)
    (hm : microprogram s.kind s.seqStep = .chkAck n) : Inv { s with errstep := s.seqStep, seqStep := 17 } := by
  obtain ⟨ht, -, hbus⟩ := seqShape_check hm h.seq
  refine ⟨execShape_of_none h.exec hop hop rfl rfl rfl, ?_, ?_, h.sample, h.rawMask, h.resultWidth, h.ackOwed⟩
  · rcases (microprogram_eq_chkAck_iff _ _ _).1 hm with ⟨hq, -⟩ | ⟨hq, -⟩ | ⟨hq, -⟩ <;>
      exact seqShape_entered (by simp) hop ht (by simp [hq]) hbus
  · rcases (microprogram_eq_chkAck_iff _ _ _).1 hm with ⟨hq, -⟩ | ⟨hq, -⟩ | ⟨hq, -⟩ <;> simp [errstepLegal, hq]

/-- `DONE` (R147): the sample written is the one assembled and decoded. -/
theorem inv_complete {s : State} (h : Inv s) (hop : s.op = none) (hm : microprogram s.kind s.seqStep = .done) :
    Inv (complete s) := by
  have he : s.errstep = 0 := by
    have hseq := h.seq
    simp_all [seqShape]
  refine ⟨execShape_of_none h.exec hop hop rfl rfl rfl, (seqShape_outside rfl).2 ?_, h.errstep, ?_,
    assembleRaw_mask _ _, decodeBits_lt _ _ _, h.ackOwed⟩
  · simp [complete, he]
  · simp [sampleShape, complete]

/-- `FAIL` (R146): `ERRSTEP` names the failed check. -/
theorem inv_abortDone {s : State} (h : Inv s) (hop : s.op = none) (hm : microprogram s.kind s.seqStep = .fail) :
    Inv (abortDone s) := by
  have he : s.errstep ≠ 0 := by
    have hseq := h.seq
    simp_all [seqShape]
  refine ⟨execShape_of_none h.exec hop hop rfl rfl rfl, (seqShape_outside rfl).2 ?_, h.errstep,
    sampleShape_of_tstat (by simp [abortDone]), h.rawMask, h.resultWidth, h.ackOwed⟩
  simp [abortDone, he]

theorem inv_sequencerStep {s : State} (h : Inv s) (hop : s.op = none) : Inv (sequencerStep s) := by
  rcases sequencerStep_cases s with ⟨-, heq⟩ | ⟨p, d, post, n, hm, heq⟩ | ⟨n, hm, -, heq⟩ | ⟨n, hm, -, -, heq⟩ |
    ⟨n, -, -, -, heq⟩ | ⟨hm, heq⟩ | ⟨hm, heq⟩
  · rwa [heq]
  · exact heq ▸ inv_dispatch h hop hm
  · exact heq ▸ inv_check_passed h hop hm
  · exact heq ▸ inv_check_failed h hop hm
  · rwa [heq]
  · exact heq ▸ inv_complete h hop hm
  · exact heq ▸ inv_abortDone h hop hm

theorem inv_agentStep (a : Agent) {s : State} (h : Inv s) : Inv (agentStep a s) := by
  cases a with
  | engine => exact inv_engineStep h
  | executor =>
    show Inv (executorStep s)
    rcases executorStep_cases s with ⟨p, hop, heq⟩ | ⟨hop, heq⟩
    · exact heq ▸ inv_primStep h hop
    · exact heq ▸ inv_sequencerStep h hop

/-! ## The Host's turns -/

theorem inv_acceptPrim {s : State} (p : Prim) (d : Byte) (h : Inv s) (hready : s.ready = true) :
    Inv (acceptPrim p d s) := by
  obtain ⟨hop, hq⟩ := (ready_iff s).1 hready
  obtain ⟨hbusy, hbf, -⟩ := (execShape_none hop).1 h.exec
  exact inv_outside h hq (by constructor <;> rfl) ((primShape_p0 (s := acceptPrim p d s) p rfl).2 ⟨hbusy, hbf⟩) rfl rfl

theorem inv_raiseFault (f : FaultBit) {s : State} (h : Inv s) : Inv (raiseFault f s) := by
  cases f <;> exact ⟨h.exec, h.seq, h.errstep, h.sample, h.rawMask, h.resultWidth, h.ackOwed⟩

theorem inv_acceptTransaction (k : Kind) {s : State} (h : Inv s) (hready : s.ready = true) :
    Inv (acceptTransaction k s) := by
  obtain ⟨hop, hq⟩ := (ready_iff s).1 hready
  by_cases hbus : s.busph = .free
  · rw [acceptTransaction_free k hbus]
    refine ⟨execShape_of_none h.exec hop hop rfl rfl rfl, ?_, rfl, rfl, h.rawMask, h.resultWidth, h.ackOwed⟩
    exact seqShape_entered (by simp) hop rfl (by simp) hbus
  · exact acceptTransaction_refused k hbus ▸ inv_raiseFault .proto h

theorem inv_accept (i : Instr) {s : State} (h : Inv s) (hready : s.ready = true) : Inv (accept i s) := by
  cases i with
  | readTemperature => exact inv_acceptTransaction .temperature h hready
  | readHumidity => exact inv_acceptTransaction .humidity h hready
  | _ => exact inv_acceptPrim _ _ h hready

theorem inv_popTurn {s : State} (h : Inv s) : Inv s.popTurn := by
  unfold State.popTurn
  split <;> exact ⟨h.exec, h.seq, h.errstep, h.sample, h.rawMask, h.resultWidth, h.ackOwed⟩

theorem inv_resetBlock (s : State) : Inv (resetBlock s) where
  exec := rfl
  seq := rfl
  errstep := rfl
  sample := rfl
  rawMask := BitVec.zero_and
  resultWidth := Nat.two_pow_pos _
  ackOwed := BusPhase.noConfusion

theorem keptByTurns_inv : KeptByTurns Inv where
  agent a _ h := inv_agentStep a h
  accept i _ hready h := inv_accept i h hready
  fault f _ h := inv_raiseFault f h
  read _ _ h := ⟨h.exec, h.seq, h.errstep, h.sample, h.rawMask, h.resultWidth, h.ackOwed⟩

/-! ## The acknowledge that is owed (R43 item 4) -/

/-- With the invariant `BUSPH` leaves `ACKOWED` only by the acknowledge sequence. -/
theorem acken_of_engineStep_answers {s : State} (h : Inv s) (hb : s.busph = .ackOwed)
    (hne : (engineStep s).busph ≠ .ackOwed) : s.acken = true ∧ (engineStep s).busph = .owned := by
  cases hbusy : s.busy with
  | false => exact absurd hb ((engineStep_eq_self_iff s).2 hbusy ▸ hne)
  | true =>
    cases inFlight_of_busy h.exec hbusy with
    | acknowledge _ _ _ _ howes =>
      obtain ⟨hsen, hrsen, hpen, -, hacken, -⟩ := (owes_iff _ _ _ _ _ _ _).1 howes
      exact ⟨hacken, by simp [engineStep, engineAck, hsen, hrsen, hpen, hacken]⟩
    | _ => simp_all

/-! ## The items of R43 -/

theorem mask_eq_zero_iff (w : Word) : w &&& 3 = 0 ↔ w.toNat % 4 = 0 := by
  rw [← BitVec.toNat_inj, BitVec.toNat_and]
  exact iff_of_eq (congrArg (· = 0) (Nat.and_two_pow_sub_one_eq_mod w.toNat 2))

theorem lastIsGot_iff (s : State) : lastIsGot s = true ↔ ∃ b, s.trace.getLast? = some (.got b) := by
  unfold lastIsGot
  split <;> simp_all

theorem owedCount_eq_zero {s : State} (h : s.busy = false) : owedCount s = 0 := by
  obtain ⟨hsen, hrsen, hpen, hrcen, hacken, htx⟩ := (busy_eq_false_iff s).1 h
  simp [owedCount, hsen, hrsen, hpen, hrcen, hacken, htx]

theorem inFlight_owed {s : State} (h : InFlight s) :
    owedCount s = 1 ∧ (s.txstat = .shift → s.bf = true) ∧ (s.txstat = .ackWait → s.bf = false) := by
  cases h <;> simp_all [owes_iff, owedCount]

/-- 10_state.md R43, items 1 and 5. -/
theorem owedCount_and_bf_of_execShape {s : State} (h : execShape s = true) :
    owedCount s ≤ 1 ∧ (s.txstat = .shift → s.bf = true) ∧ (s.txstat = .ackWait → s.bf = false) := by
  cases hb : s.busy with
  | false =>
    obtain ⟨-, -, -, -, -, htx⟩ := (busy_eq_false_iff s).1 hb
    simp [owedCount_eq_zero hb, htx]
  | true =>
    obtain ⟨hcount, hbf⟩ := inFlight_owed (inFlight_of_busy h hb)
    exact ⟨hcount.le, hbf⟩

theorem errstepLegal_iff (s : State) :
    errstepLegal s = true ↔ s.errstep = 0 ∨ s.errstep = 3 ∨ s.errstep = 5 ∨ s.errstep = 8 := by
  simp [errstepLegal, or_assoc]

theorem sampleShape_ok {s : State} (h : sampleShape s = true) (hok : s.tstat = .ok) :
    s.raw = assembleRaw s.msb s.lsb ∧ s.result = decodeBits s.params.fmt s.kind s.raw := by
  simpa [sampleShape, hok] using h

end Sys2Proof.Safety
end

section
/-!
The statements of 10_state.md: who writes what (R21 to R39), the register file (R40 to R42), the invariant (R43) and the
values at reset (R44).
-/
namespace Sys2Proof.Proofs

open Sys2Proof.Machine Sys2Proof.Safety

/-- Settles O51: reset apart, every turn is made of agents' steps, acceptances, fault bits and reads, and each keeps the
invariant. -/
theorem stepKeepsInvariant : Obligations.StepKeepsInvariant := fun s _ h ht =>
  keptByTurns_inv.takeTurn (fun _ => inv_resetBlock s.popTurn) (inv_popTurn h) ht

/-- Settles O50: the state at power-up is a state after reset. -/
theorem invariantAtReset : Obligations.InvariantAtReset := inv_resetBlock State.reset

/-- Settles O18: the Executor leaves the bus alone, and no engine step sets a request. -/
theorem whoWritesThePeripheral : Obligations.WhoWritesThePeripheral := by
  intro s
  obtain ⟨hbusph, hackstat, htrace, hsen, hrsen, hpen, hrcen, hacken, -⟩ := leavesBus_executorStep s
  exact ⟨⟨hbusph, hackstat, htrace⟩, ⟨hsen, hrsen, hpen, hrcen, hacken⟩, engineStep_request⟩

/-- Settles O53: only an engine step writes `BUSPH`; it enters `ACKOWED` by a receive and leaves it by the acknowledge
sequence, the one thing the invariant lets the bus be owed there. -/
theorem acknowledgeOwedFromReceiveToAnswer : Obligations.AcknowledgeOwedFromReceiveToAnswer := by
  intro s t h ht
  refine ⟨fun hreset => ?_, fun hreset hissue => ?_⟩
  · rw [step, hreset] at ht
    cases ht
    rfl
  obtain ⟨r, k, hpop⟩ := popTurn_form s
  have hbus : s.popTurn.busph = s.busph := by rw [hpop]
  have hturns : t.busph = s.busph ∨ s.nextTurn = .engine ∧ t = engineStep s.popTurn := by
    rcases step_single_cases ht hreset hissue with ⟨-, rfl⟩ | hengine | ⟨n, w, rfl⟩ | ⟨n, rfl⟩
    · exact .inl ((leavesBus_executorStep _).busph.trans hbus)
    · exact .inr hengine
    · exact .inl ((leavesBus_writeReg n w _).busph.trans hbus)
    · exact .inl ((leavesBus_hostRead n _).busph.trans hbus)
  rcases hturns with hsame | ⟨hturn, rfl⟩
  · rw [hsame]
    exact ⟨fun hne hto => absurd hto hne, fun hfrom hne => absurd hfrom hne⟩
  · rw [← hbus, show s.rcen = s.popTurn.rcen by rw [hpop], show s.acken = s.popTurn.acken by rw [hpop]]
    exact ⟨fun hne hto => ⟨hturn, rcen_of_engineStep_ackOwed hne hto⟩,
      fun hfrom hne => ⟨hturn, acken_of_engineStep_answers (inv_popTurn h) hfrom hne⟩⟩

/-- Settles O55: every turn but reset keeps each fault bit that is set. -/
theorem faultsAreSticky : Obligations.FaultsAreSticky := by
  intro s t ht hreset
  have hkept (f : FaultBit) (h : s.faultBit f = true) : t.faultBit f = true :=
    (keptByTurns_faultBit f).takeTurn (fun hr => absurd hr hreset) ((popTurn_faultBit f s).trans h) ht
  exact ⟨hkept .illcmd, hkept .ovr, hkept .proto⟩

/-- Settles O56: every turn, reset included, keeps the events so far. -/
theorem traceOnlyGrows : Obligations.TraceOnlyGrows := by
  intro s t ht
  have hpop : ∃ es, s.popTurn.trace = s.trace ++ es := ⟨[], by rw [popTurn_trace, List.append_nil]⟩
  exact (keptByTurns_trace s.trace).takeTurn (fun _ => hpop) hpop ht

/-- Settles O58: each agent's single turn writes the sample as ruled. -/
theorem sampleWrittenOnlyWhereRuled : Obligations.SampleWrittenOnlyWhereRuled := by
  intro s t ht hreset hissue
  have hruled : SampleAsRuled s.popTurn t := by
    rcases step_single_cases ht hreset hissue with ⟨-, rfl⟩ | ⟨-, rfl⟩ | ⟨n, w, rfl⟩ | ⟨n, rfl⟩
    · exact sampleAsRuled_executorStep _
    · exact (engineStep_sameRecord _).sampleAsRuled
    · exact sampleAsRuled_writeReg n w _
    · exact SameRecord.sampleAsRuled (by constructor <;> rfl)
  obtain ⟨r, k, hpop⟩ := popTurn_form s
  rw [hpop] at hruled
  exact ⟨hruled.sample, hruled.msb, hruled.lsb, hruled.chk⟩

/-- Settles O44: each register is its fields side by side, read as a number. -/
theorem registerFileLayout : Obligations.RegisterFileLayout := by
  intro s
  refine ⟨?_, ?_, ?_, ?_, ?_, rfl, rfl, rfl, rfl, rfl, rfl, rfl, fun n h => readReg_of_ge h s,
    fun n w h => writeReg_of_ne h w s⟩
  · rw [readReg, State.statusReg, toNat_append_eq_add]
    simp only [toNat_append_eq_add, bit_toNat, BitVec.toNat_ofNat]
    omega
  · rw [readReg, State.ctlReg, toNat_append_eq_add]
    simp only [toNat_append_eq_add, bit_toNat, BitVec.toNat_ofNat]
    omega
  · rw [readReg, State.faultReg, toNat_append_eq_add]
    simp only [toNat_append_eq_add, bit_toNat, BitVec.toNat_ofNat]
    omega
  · rw [readReg, State.seqReg, toNat_append_eq_add]
    simp only [toNat_append_eq_add, stepCode_toNat, BitVec.toNat_ofNat]
    omega
  · rw [readReg, State.execReg, toNat_append_eq_add]
    simp only [toNat_append_eq_add, BitVec.toNat_ofNat]
    omega

/-- Settles O45: the turn on the agenda is the read, or a write that is ignored. -/
theorem hostReadsAndIdleWrites : Obligations.HostReadsAndIdleWrites := by
  intro s n w r
  refine ⟨fun h => ?_, fun hn h => ?_⟩
  · rw [step_cons h, takeTurn, hostRead]
    rfl
  · rw [step_cons h, takeTurn, writeReg_of_ne hn]

/-- Settles O46: the registers that exist are evaluated, and numbers from 12 read as 0. -/
theorem resetValues : Obligations.ResetValues := by
  refine ⟨rfl, fun n hn => ?_, rfl, rfl, ⟨rfl, rfl, rfl, rfl, rfl⟩, fun s => rfl⟩
  rcases Nat.lt_or_ge n 12 with hlt | hge
  · interval_cases n
    · rfl
    · exact absurd rfl hn
    all_goals rfl
  · exact readReg_of_ge hge _

/-- Settles O52: items 1 and 5 by what can be owed to the bus, the others from the invariant's parts. -/
theorem invariantGivesR43 : Obligations.InvariantGivesR43 := by
  intro s h
  obtain ⟨hcount, hshift, hwait⟩ := owedCount_and_bf_of_execShape h.exec
  refine ⟨hcount, fun hop => ?_, not_ready_of_seqStep, fun hb => (lastIsGot_iff s).1 (h.ackOwed hb), hshift, hwait,
    (mask_eq_zero_iff _).1 h.rawMask, fun hok => ?_, (errstepLegal_iff s).1 h.errstep⟩
  · obtain ⟨hbusy, hbf, hph⟩ := (execShape_none hop).1 h.exec
    obtain ⟨hsen, hrsen, hpen, hrcen, hacken, htx⟩ := (busy_eq_false_iff s).1 hbusy
    exact ⟨hsen, hrsen, hpen, hrcen, hacken, htx, hbf, hph, hbusy⟩
  · obtain ⟨hraw, hresult⟩ := sampleShape_ok h.sample hok
    exact ⟨hraw.trans (assembleRaw_eq _ _), hresult⟩

end Sys2Proof.Proofs
end

section
/-!
Format C as a bijection between words and fields, and the commands by their fields (30_encoding.md R80 to R83).
-/
namespace Sys2Proof

/-! ## The fields of a word (R80) -/

theorem fieldsOf_opc_toNat (w : Word) : (fieldsOf w).opc.toNat = w.toNat / 4096 := by
  rw [fieldsOf, BitVec.extractLsb'_toNat, Nat.shiftRight_eq_div_pow]
  omega

theorem fieldsOf_rsv_toNat (w : Word) : (fieldsOf w).rsv.toNat = w.toNat / 256 % 16 := by
  rw [fieldsOf, BitVec.extractLsb'_toNat, Nat.shiftRight_eq_div_pow]

theorem fieldsOf_data_toNat (w : Word) : (fieldsOf w).data.toNat = w.toNat % 256 := by
  rw [fieldsOf, BitVec.extractLsb'_toNat, Nat.shiftRight_zero]

theorem Fields.word_toNat (f : Fields) : f.word.toNat = f.opc.toNat * 4096 + f.rsv.toNat * 256 + f.data.toNat := by
  rw [Fields.word, Machine.toNat_append_eq_add, Machine.toNat_append_eq_add]
  omega

/-- A word and its fields determine each other. -/
theorem fieldsOf_eq_iff (w : Word) (f : Fields) : fieldsOf w = f ↔ w = f.word := by
  have hopc := fieldsOf_opc_toNat w
  have hrsv := fieldsOf_rsv_toNat w
  have hdata := fieldsOf_data_toNat w
  constructor
  · rintro rfl
    rw [← BitVec.toNat_inj, Fields.word_toNat]
    omega
  · rintro rfl
    rw [Fields.word_toNat] at hopc hrsv hdata
    have ho : (fieldsOf f.word).opc = f.opc := BitVec.eq_of_toNat_eq (by omega)
    have hr : (fieldsOf f.word).rsv = f.rsv := BitVec.eq_of_toNat_eq (by omega)
    have hd : (fieldsOf f.word).data = f.data := BitVec.eq_of_toNat_eq (by omega)
    exact congr (congrArg₂ Fields.mk ho hr) hd

@[simp] theorem word_fieldsOf (w : Word) : (fieldsOf w).word = w := ((fieldsOf_eq_iff w _).1 rfl).symm

@[simp] theorem fieldsOf_word (f : Fields) : fieldsOf f.word = f := (fieldsOf_eq_iff _ f).2 rfl

/-! ## The commands by their fields (R82) -/

theorem data_eq_zero_of_opc {i : Instr} (h : i.opc ≠ 7) : i.data = 0 := by
  cases i with
  | writeByte v => exact absurd rfl h
  | _ => rfl

/-- The table's opcodes, with the data byte an operand of `WRITE_BYTE` alone. -/
theorem instrOfOpc_eq_some_iff (o : BitVec 4) (d : Byte) (i : Instr) :
    instrOfOpc o d = some i ↔ o = i.opc ∧ (o = 7 → d = i.data) := by
  constructor
  · intro h
    unfold instrOfOpc at h
    split at h <;> cases h <;> simp_all [← BitVec.toNat_inj, Instr.opc, Instr.data]
  · rintro ⟨rfl, h⟩
    cases i with
    | writeByte v => rw [h rfl]; rfl
    | _ => rfl

/-- Opcodes 1 to 10 are the commands' (R83). -/
theorem opcOk_iff (f : Fields) : f.opcOk = true ↔ ∃ i, instrOfOpc f.opc f.data = some i := by
  unfold Fields.opcOk instrOfOpc
  split <;> simp_all
  omega

theorem decodeFields_eq_ok_iff_of_checks (f : Fields) (i : Instr) :
    decodeFields f = .ok i ↔ instrOfOpc f.opc f.data = some i ∧ f.rsvOk = true ∧ f.dataOk = true := by
  unfold decodeFields
  cases instrOfOpc f.opc f.data with
  | none => simp
  | some j => cases f.rsvOk <;> cases f.dataOk <;> simp

/-- The decoder accepts exactly the commands' own fields. -/
theorem decodeFields_eq_ok_iff (f : Fields) (i : Instr) : decodeFields f = .ok i ↔ f = ⟨i.opc, 0, i.data⟩ := by
  obtain ⟨o, r, d⟩ := f
  rw [decodeFields_eq_ok_iff_of_checks, instrOfOpc_eq_some_iff, Fields.mk.injEq]
  simp only [Fields.rsvOk, Fields.dataOk, Bool.or_eq_true, beq_iff_eq]
  constructor
  · rintro ⟨⟨rfl, hd⟩, hr, h7 | h0⟩
    · exact ⟨rfl, hr, hd h7⟩
    · by_cases h7 : i.opc = 7
      · exact ⟨rfl, hr, hd h7⟩
      · exact ⟨rfl, hr, h0.trans (data_eq_zero_of_opc h7).symm⟩
  · rintro ⟨rfl, hr, rfl⟩
    exact ⟨⟨rfl, fun _ => rfl⟩, hr, or_iff_not_imp_left.2 data_eq_zero_of_opc⟩

theorem decode_eq_ok_iff (w : Word) (i : Instr) : decode w = .ok i ↔ w = encode i := by
  rw [decode, decodeFields_eq_ok_iff, fieldsOf_eq_iff, encode]

@[simp] theorem decode_encode (i : Instr) : decode (encode i) = .ok i := (decode_eq_ok_iff _ i).2 rfl

/-! ## Legal words (R83) -/

/-- The legal words are the commands' words. -/
theorem legal_iff (w : Word) : legal w = true ↔ ∃ i, w = encode i := by
  simp only [← decode_eq_ok_iff, decode, decodeFields_eq_ok_iff_of_checks, legal, Fields.wellFormed, Bool.and_eq_true,
    opcOk_iff, exists_and_right, and_assoc]

theorem legal_iff_toNat (w : Word) : legal w = true ↔
    (1 ≤ w.toNat / 4096 ∧ w.toNat / 4096 ≤ 10) ∧ w.toNat / 256 % 16 = 0 ∧
      (w.toNat / 4096 = 7 ∨ w.toNat % 256 = 0) := by
  simp [legal, Fields.wellFormed, Fields.opcOk, Fields.rsvOk, Fields.dataOk, ← BitVec.toNat_inj, fieldsOf_opc_toNat,
    fieldsOf_rsv_toNat, fieldsOf_data_toNat, and_assoc]

theorem exists_decode_error_iff (w : Word) : (∃ e, decode w = .error e) ↔ legal w = false := by
  rw [← Bool.not_eq_true, legal_iff]
  simp only [← decode_eq_ok_iff]
  cases decode w <;> simp

/-! ## The rows of the table (R82) -/

theorem Fields.word_and (f g : Fields) :
    f.word &&& g.word = (Fields.mk (f.opc &&& g.opc) (f.rsv &&& g.rsv) (f.data &&& g.data)).word :=
  BitVec.and_append.trans (congrArg (· ++ (f.data &&& g.data)) BitVec.and_append)

/-- A row's match column is its opcode. -/
theorem rowMatch_eq (i : Instr) : i.rowMatch = (Fields.mk i.opc 0 0).word := by
  cases i with
  | writeByte v => show (0x7000 : Word) = (Fields.mk 7 0 0).word; rfl
  | _ => rfl

/-- A row's mask column leaves out nothing but the data byte of `WRITE_BYTE`. -/
theorem rowMask_eq (i : Instr) :
    i.rowMask = (Fields.mk (BitVec.allOnes 4) (BitVec.allOnes 4) (if i.opc = 7 then 0 else BitVec.allOnes 8)).word := by
  cases i with
  | writeByte v => show (0xFF00 : Word) = (Fields.mk (BitVec.allOnes 4) (BitVec.allOnes 4) 0).word; rfl
  | _ => rfl

theorem mem_opcodeRows_iff (r : Word × Word) : r ∈ opcodeRows ↔ ∃ i : Instr, (i.rowMatch, i.rowMask) = r := by
  have hrows : opcodeRows =
      [.start, .restart, .stop, .ack, .nack, .waitIdle, .writeByte 0, .readByte, .readTemperature, .readHumidity].map
        fun i : Instr => (i.rowMatch, i.rowMask) := rfl
  constructor
  · intro h
    obtain ⟨i, -, hi⟩ := List.mem_map.1 (hrows ▸ h)
    exact ⟨i, hi⟩
  · rintro ⟨i, rfl⟩
    cases i <;> simp [opcodeRows, Instr.rowMatch, Instr.rowMask]

/-- A word matches a command's row when it has that command's opcode, `rsv` 0, and `data` 0 but for `WRITE_BYTE`. -/
theorem and_rowMask_eq_iff (w : Word) (i : Instr) : w &&& i.rowMask = i.rowMatch ↔
    (fieldsOf w).opc = i.opc ∧ (fieldsOf w).rsv = 0 ∧ (i.opc = 7 ∨ (fieldsOf w).data = 0) := by
  conv_lhs => rw [← word_fieldsOf w, rowMask_eq, rowMatch_eq, Fields.word_and, ← fieldsOf_eq_iff, fieldsOf_word]
  rw [Fields.mk.injEq, BitVec.and_allOnes, BitVec.and_allOnes]
  split_ifs with h7
  · simp [h7]
  · simp only [BitVec.and_allOnes, h7, false_or]

/-- A legal word is one that matches a command's row (R83). -/
theorem legal_iff_row (w : Word) : legal w = true ↔ ∃ i : Instr, w &&& i.rowMask = i.rowMatch := by
  simp only [legal_iff, and_rowMask_eq_iff, encode, ← fieldsOf_eq_iff]
  constructor
  · rintro ⟨i, hi⟩
    rw [hi]
    exact ⟨i, rfl, rfl, or_iff_not_imp_left.2 data_eq_zero_of_opc⟩
  · rintro ⟨i, ho, hr, hd⟩
    by_cases h7 : i.opc = 7
    · exact ⟨.writeByte (fieldsOf w).data, congr (congrArg₂ Fields.mk (ho.trans h7) hr) rfl⟩
    · have hd : (fieldsOf w).data = i.data := (hd.resolve_left h7).trans (data_eq_zero_of_opc h7).symm
      exact ⟨i, congr (congrArg₂ Fields.mk ho hr) hd⟩

end Sys2Proof
end

section
/-!
The statements of 30_encoding.md about words: the decoder and the encoder (R80, R82), the legal words (R83).
-/
namespace Sys2Proof.Proofs

open Sys2Proof.Machine Sys2Proof.Safety

/-- Settles O2: the decoder accepts exactly a command's own fields, and a word and its fields determine each other. -/
theorem decodeInvertsEncodeExactly : Obligations.DecodeInvertsEncodeExactly := decode_eq_ok_iff

/-- Settles O3: legality and the rows by the words' fields; a row is determined by its opcode. -/
theorem legalWordsAreTheTableRows : Obligations.LegalWordsAreTheTableRows := by
  intro w
  refine ⟨?_, ?_, ?_⟩
  · simp only [legal_iff_row, mem_opcodeRows_iff, exists_exists_eq_and]
  · simp only [mem_opcodeRows_iff]
    rintro _ ⟨i, rfl⟩ _ ⟨j, rfl⟩ hi hj
    have hopc : i.opc = j.opc := ((and_rowMask_eq_iff w i).1 hi).1.symm.trans ((and_rowMask_eq_iff w j).1 hj).1
    simp only [rowMatch_eq, rowMask_eq, hopc]
  · simp only [legal_iff, decode_eq_ok_iff]

/-- Settles O4: the rejected words are those that are not legal, and legality is a condition on three numbers. -/
theorem illegalWordsByTheirFields : Obligations.IllegalWordsByTheirFields := by
  intro w
  rw [exists_decode_error_iff, ← Bool.not_eq_true, legal_iff_toNat]
  omega

/-- Settles O1: thirteen words, evaluated. -/
theorem sampleWordsDecode : Obligations.SampleWordsDecode := by
  unfold Obligations.SampleWordsDecode
  decide

end Sys2Proof.Proofs
end

section
/-!
The run of a command (40_bus_primitives.md R119, 41_transaction_sequencer.md R151): counted steps of the block, a
primitive from phase 0 to its retirement, a whole command from acceptance to `READY = 1`.
-/
namespace Sys2Proof.Machine

open Sys2Proof.Safety

/-! ## Acceptance and issue (30_encoding.md R81) -/

theorem accept_of_primOf {i : Instr} {p : Prim} (h : primOf i = some p) (s : State) :
    accept i s = acceptPrim p i.data s := by
  cases i <;> cases h <;> rfl

theorem accept_of_kindOf {i : Instr} {k : Kind} (h : kindOf i = some k) (s : State) :
    accept i s = acceptTransaction k s := by
  cases i <;> cases h <;> rfl

@[simp] theorem kindOf_command (k : Kind) : kindOf k.command = some k := by cases k <;> rfl

theorem opCode_of_primOf {i : Instr} {p : Prim} (h : primOf i = some p) : opCode (some p) = i.opc := by
  cases i <;> cases h <;> rfl

theorem ready_of_idle {s : State} (h : Idle s) : s.ready = true := (ready_iff s).2 ⟨h.op, h.seqStep⟩

theorem exec_of_ready {s : State} (i : Instr) (h : s.ready = true) :
    exec i s = .next (runToReady commandFuel (accept i s)) := by
  rw [exec_eq_issueCommand, issueCommand_ready _ h]

theorem exec_gives_next (i : Instr) (s : State) : ∃ t, exec i s = .next t := by
  rw [exec_eq_issueCommand]
  exact ⟨_, rfl⟩

theorem afterReady_gives_next {act : State → Host.Outcome State Fault Refusal} (hact : ∀ u, ∃ t, act u = .next t)
    (s : State) : ∃ t, afterReady act s = .next t := by
  unfold afterReady
  split_ifs
  · exact hact _
  · exact ⟨_, rfl⟩

theorem takeTurn_gives_next (turn : Turn) (s : State) : ∃ t, takeTurn turn s = .next t := by
  cases turn with
  | executor => exact ⟨_, rfl⟩
  | engine => exact ⟨_, rfl⟩
  | host act =>
    cases act with
    | issue w =>
      cases hd : decode w with
      | ok i => exact takeTurn_issue hd s ▸ afterReady_gives_next (exec_gives_next i) s
      | error e => exact takeTurn_issue_illegal hd s ▸ afterReady_gives_next (fun u => ⟨_, rfl⟩) s
    | _ => exact ⟨_, rfl⟩

/-! ## Counted steps of the block -/

/-- From `s` the block takes `n` steps, none of them from a state with `READY = 1`, and is at `t`. -/
def BlockRun (n : Nat) (s t : State) : Prop := ∀ m, runToReady (n + m) s = runToReady m t

theorem BlockRun.refl (s : State) : BlockRun 0 s s := fun m => by rw [Nat.zero_add]

theorem BlockRun.trans {n m : Nat} {s t u : State} (h : BlockRun n s t) (h' : BlockRun m t u) : BlockRun (n + m) s u :=
  fun l => by rw [Nat.add_assoc, h, h']

theorem BlockRun.runToReady_eq {n m : Nat} {s t : State} (h : BlockRun n s t) (hn : n ≤ m) (ht : t.ready = true) :
    runToReady m s = t := by
  rw [← Nat.add_sub_of_le hn, h, runToReady_of_ready ht]

theorem blockRun_executor {s : State} (hready : s.ready = false) (hbusy : s.busy = false) :
    BlockRun 1 s (executorStep s) := fun m => by
  rw [Nat.add_comm, runToReady_step hready, blockStep_executor hbusy]

/-- While a primitive is in progress and something is owed to the bus, the Bus engine steps. -/
theorem blockRun_engine {s t : State} {p : Prim} (hop : s.op = some p) (hbusy : s.busy = true)
    (h : engineStep s = t) : BlockRun 1 s t := fun m => by
  rw [Nat.add_comm, runToReady_step (not_ready_of_op hop), blockStep_engine hbusy, h]

/-- While a primitive is in progress and nothing is owed to the bus, the primitive steps. -/
theorem blockRun_prim {s t : State} {p : Prim} (hop : s.op = some p) (hbusy : s.busy = false)
    (h : primStep p s = t) : BlockRun 1 s t :=
  h ▸ executorStep_of_op hop ▸ blockRun_executor (not_ready_of_op hop) hbusy

/-! ## A primitive in phase 0 -/

/-- Phase 0 of a primitive that requests something: the table of R118 decides. -/
theorem primStep_p0 {p : Prim} {s : State} (hp : p ≠ .waitIdle) (hph : s.ph = .p0) :
    primStep p s = if legalIn p s.busph then request p s else refuse s := by
  cases p with
  | waitIdle => exact absurd rfl hp
  | start => cases hb : s.busph <;> simp [primStep, phaseStart, request, legalIn, hph, hb]
  | restart => cases hb : s.busph <;> simp [primStep, phaseRestart, request, legalIn, hph, hb]
  | stop => cases hb : s.busph <;> simp [primStep, phaseStop, request, legalIn, hph, hb]
  | ack => cases hb : s.busph <;> simp [primStep, phaseAck, request, legalIn, hph, hb]
  | nack => cases hb : s.busph <;> simp [primStep, phaseNack, request, legalIn, hph, hb]
  | writeByte => cases hb : s.busph <;> simp [primStep, phaseWriteByte, request, legalIn, hph, hb]
  | readByte => cases hb : s.busph <;> simp [primStep, phaseReadByte, request, legalIn, hph, hb]

theorem legalIn_waitIdle (b : BusPhase) : legalIn .waitIdle b = true := by cases b <;> rfl

theorem primStep_of_illegal {p : Prim} {s : State} (hph : s.ph = .p0) (hlegal : legalIn p s.busph = false) :
    primStep p s = refuse s := by
  have hp : p ≠ .waitIdle := by
    rintro rfl
    simp [legalIn_waitIdle] at hlegal
  simp [primStep_p0 hp hph, hlegal]

/-! ## A primitive from phase 0 to its retirement -/

/-- What the Bus engine does for a primitive's request (R110 to R116): the event, the bus phase it leaves, the device's
answer. -/
def serve (p : Prim) (s : State) : State :=
  match p with
  | .start => { emit .start s with busph := .owned }
  | .restart => emit .restart s
  | .stop => { emit .stop s with busph := .free }
  | .ack => { emit .ack s with busph := .owned, ackdt := false }
  | .nack => { emit .nack s with busph := .owned, ackdt := true }
  | .waitIdle => s
  | .writeByte =>
    { emit (.wrote s.opdata (s.nextAck s.opdata)) s with
      buf := s.opdata, ackstat := s.nextAck s.opdata, acks := s.acks.tail }
  | .readByte =>
    { emit (.got s.nextByte) s with buf := s.nextByte, bytes := s.bytes.tail, bf := true, busph := .ackOwed }

/-- How many steps a primitive takes from phase 0 to its retirement, the engine's with the Executor's. -/
def primSteps : Prim → Nat
  | .start | .restart | .stop | .ack | .nack => 3
  | .waitIdle => 1
  | .writeByte => 5
  | .readByte => 4

@[simp] theorem serve_op (p : Prim) (s : State) : (serve p s).op = s.op := by cases p <;> rfl
@[simp] theorem serve_busy (p : Prim) (s : State) : (serve p s).busy = s.busy := by cases p <;> rfl

/-- The state with a primitive at another phase. -/
def atPhase (ph : Phase) (s : State) : State := { s with ph := ph }

/-- The five primitives that request one bus event. -/
theorem blockRun_of_flag {p : Prim} {s : State} (hop : s.op = some p) (hbusy : s.busy = false)
    (hrequest : primStep p s = request p s) (hrequested : (request p s).busy = true)
    (hserve : engineStep (request p s) = atPhase .p1 (serve p s))
    (hretire : primStep p (atPhase .p1 (serve p s)) = retire (serve p s)) : BlockRun 3 s (retire (serve p s)) := by
  have h1 : BlockRun 1 s (request p s) := blockRun_prim hop hbusy hrequest
  have h2 : BlockRun 1 (request p s) (atPhase .p1 (serve p s)) :=
    blockRun_engine ((request_op p s).trans hop) hrequested hserve
  have h3 : BlockRun 1 (atPhase .p1 (serve p s)) (retire (serve p s)) :=
    blockRun_prim ((serve_op p s).trans hop) ((serve_busy p s).trans hbusy) hretire
  exact (h1.trans h2).trans h3

/-- The last two steps of a primitive that moves a byte: the passage to phase 2 and the retirement. -/
theorem blockRun_of_buffer {p : Prim} {s : State} (hop : s.op = some p) (hbusy : s.busy = false)
    (hpass : primStep p (atPhase .p1 s) = atPhase .p2 s)
    (hretire : primStep p (atPhase .p2 s) = retire (collect p s)) :
    BlockRun 2 (atPhase .p1 s) (retire (collect p s)) :=
  BlockRun.trans (m := 1) (n := 1) (blockRun_prim hop hbusy hpass) (blockRun_prim hop hbusy hretire)

theorem blockRun_writeByte {s : State} (hop : s.op = some .writeByte) (hbusy : s.busy = false) (hbf : s.bf = false)
    (hrequest : primStep .writeByte s = request .writeByte s) : BlockRun 5 s (retire (serve .writeByte s)) := by
  obtain ⟨hsen, hrsen, hpen, hrcen, hacken, htx⟩ := (busy_eq_false_iff s).1 hbusy
  have hbusy' : (serve .writeByte s).busy = false := hbusy
  have h1 : BlockRun 1 s (request .writeByte s) := blockRun_prim hop hbusy hrequest
  have h2 : BlockRun 1 (request .writeByte s) (engineTxShift (request .writeByte s)) :=
    blockRun_engine hop (by simp [State.busy, request])
      (by simp [engineStep, request, hsen, hrsen, hpen, hacken])
  have h3 : BlockRun 1 (engineTxShift (request .writeByte s)) (atPhase .p1 (serve .writeByte s)) := by
    refine blockRun_engine hop (by simp [State.busy, request, engineTxShift]) ?_
    simp [engineStep, engineTxShift, engineTxAck, request, serve, atPhase, emit, State.nextAck, hsen, hrsen, hpen,
      hacken, hbf, htx]
  have h4 : BlockRun 2 (atPhase .p1 (serve .writeByte s)) (retire (serve .writeByte s)) :=
    blockRun_of_buffer (s := serve .writeByte s) hop hbusy' (by simp [primStep, phaseWriteByte, atPhase, serve, hbf])
      (if_pos ((busIdle_iff (atPhase .p2 (serve .writeByte s))).2 hbusy))
  exact ((h1.trans h2).trans h3).trans h4

theorem blockRun_readByte {s : State} (hop : s.op = some .readByte) (hbusy : s.busy = false)
    (hrequest : primStep .readByte s = request .readByte s) :
    BlockRun 4 s (retire (collect .readByte (serve .readByte s))) := by
  obtain ⟨hsen, hrsen, hpen, hrcen, hacken, htx⟩ := (busy_eq_false_iff s).1 hbusy
  have hbusy' : (serve .readByte s).busy = false := hbusy
  have h1 : BlockRun 1 s (request .readByte s) := blockRun_prim hop hbusy hrequest
  have h2 : BlockRun 1 (request .readByte s) (atPhase .p1 (serve .readByte s)) := by
    refine blockRun_engine hop (by simp [State.busy, request]) ?_
    simp [engineStep, engineRx, request, serve, atPhase, emit, State.nextByte, hsen, hrsen, hpen, hrcen, hacken, htx]
  have h3 : BlockRun 2 (atPhase .p1 (serve .readByte s)) (retire (collect .readByte (serve .readByte s))) :=
    blockRun_of_buffer (s := serve .readByte s) hop hbusy' rfl
      (if_pos ((busIdle_iff (atPhase .p2 (serve .readByte s))).2 hbusy))
  exact (h1.trans h2).trans h3

/-- A primitive that the bus phase admits runs from phase 0 to its retirement. -/
theorem blockRun_to_retirement {p : Prim} {s : State} (hop : s.op = some p) (hph : s.ph = .p0) (hbusy : s.busy = false)
    (hbf : s.bf = false) (hlegal : legalIn p s.busph = true) :
    BlockRun (primSteps p) s (retire (collect p (serve p s))) := by
  obtain ⟨hsen, hrsen, hpen, hrcen, hacken, htx⟩ := (busy_eq_false_iff s).1 hbusy
  have hrequest (hp : p ≠ .waitIdle) : primStep p s = request p s := by simp [primStep_p0 hp hph, hlegal]
  cases p with
  | start =>
    exact blockRun_of_flag hop hbusy (hrequest (by decide)) (by simp [State.busy, request])
      (by simp [engineStep, engineStart, request, serve, atPhase, emit, hsen]) (if_neg (by simp [serve, atPhase, hsen]))
  | restart =>
    exact blockRun_of_flag hop hbusy (hrequest (by decide)) (by simp [State.busy, request])
      (by simp [engineStep, engineRestart, request, serve, atPhase, emit, hsen, hrsen])
      (if_neg (by simp [serve, atPhase, hrsen]))
  | stop =>
    exact blockRun_of_flag hop hbusy (hrequest (by decide)) (by simp [State.busy, request])
      (by simp [engineStep, engineStop, request, serve, atPhase, emit, hsen, hrsen, hpen])
      (if_neg (by simp [serve, atPhase, hpen]))
  | ack =>
    exact blockRun_of_flag hop hbusy (hrequest (by decide)) (by simp [State.busy, request])
      (by simp [engineStep, engineAck, request, serve, atPhase, emit, hsen, hrsen, hpen, hacken])
      (if_neg (by simp [serve, atPhase, hacken]))
  | nack =>
    exact blockRun_of_flag hop hbusy (hrequest (by decide)) (by simp [State.busy, request])
      (by simp [engineStep, engineAck, request, serve, atPhase, emit, hsen, hrsen, hpen, hacken])
      (if_neg (by simp [serve, atPhase, hacken]))
  | waitIdle =>
    exact blockRun_prim hop hbusy (by simp [primStep, phaseWaitIdle, hph, (busIdle_iff s).2 hbusy, collect, serve])
  | writeByte => exact blockRun_writeByte hop hbusy hbf (hrequest (by decide))
  | readByte => exact blockRun_readByte hop hbusy (hrequest (by decide))

/-! ## A primitive as a command -/

/-- What a primitive with a data byte does where the bus phase admits it, between acceptance and retirement. -/
def perform (p : Prim) (d : Byte) (s : State) : State := collect p (serve p { s with opdata := d })

theorem perform_sameRecord (p : Prim) (d : Byte) (s : State) : SameRecord s (perform p d s) := by
  cases p <;> constructor <;> rfl

@[simp] theorem perform_op (p : Prim) (d : Byte) (s : State) : (perform p d s).op = s.op := by cases p <;> rfl
@[simp] theorem perform_ph (p : Prim) (d : Byte) (s : State) : (perform p d s).ph = s.ph := by cases p <;> rfl
@[simp] theorem perform_busy (p : Prim) (d : Byte) (s : State) : (perform p d s).busy = s.busy := by cases p <;> rfl

theorem perform_bf {s : State} (p : Prim) (d : Byte) (h : s.bf = false) : (perform p d s).bf = false := by
  cases p with
  | readByte => rfl
  | _ => exact h

theorem perform_busph {p : Prim} {b : BusPhase} {s : State} (d : Byte) (hlegal : legalIn p s.busph = true)
    (h : busphAfter p = some b) : (perform p d s).busph = b := by
  cases p with
  | restart | writeByte => cases h; cases hb : s.busph <;> simp_all [legalIn, perform, collect, serve]
  | waitIdle => cases h
  | _ => cases h; rfl

/-- A primitive in progress leaves, but for `OP` and `PH`, what it does between commands. -/
theorem retire_acceptPrim (p : Prim) (d : Byte) (s : State) :
    retire (collect p (serve p (acceptPrim p d s))) = retire (perform p d s) := by
  cases p <;> rfl

/-- At the end of a run there is nothing left to retire. -/
theorem retire_of_idle {s : State} (h : Idle s) : retire s = s := by
  rw [retire_outside h.seqStep]
  obtain ⟨hop, -, -, -, hph⟩ := h
  simp only [← hop, ← hph]

theorem idle_perform {s : State} (p : Prim) (d : Byte) (h : Idle s) : Idle (perform p d s) where
  op := (perform_op p d s).trans h.op
  seqStep := (perform_sameRecord p d s).seqStep.trans h.seqStep
  busy := (perform_busy p d s).trans h.busy
  bf := perform_bf p d h.bf
  ph := (perform_ph p d s).trans h.ph

/-- A primitive issued at the end of a run runs until it is over. -/
theorem exec_of_blockRun {s t : State} {i : Instr} {p : Prim} {n : Nat} (h : Idle s) (hp : primOf i = some p)
    (hrun : BlockRun n (acceptPrim p i.data s) (retire t)) (hn : n ≤ commandFuel) (ht : Idle t) :
    exec i s = .next t := by
  rw [retire_of_idle ht] at hrun
  rw [exec_of_ready i (ready_of_idle h), accept_of_primOf hp, hrun.runToReady_eq hn (ready_of_idle ht)]

/-- A primitive issued at the end of a run, where the table of R118 admits it. -/
theorem exec_of_legal {s : State} {i : Instr} {p : Prim} (h : Idle s) (hp : primOf i = some p)
    (hlegal : legalIn p s.busph = true) : exec i s = .next (perform p i.data s) := by
  have hrun := blockRun_to_retirement (s := acceptPrim p i.data s) rfl rfl h.busy h.bf hlegal
  rw [retire_acceptPrim] at hrun
  exact exec_of_blockRun h hp hrun (by cases p <;> decide) (idle_perform p i.data h)

/-- A primitive issued at the end of a run, where the table of R118 refuses it. -/
theorem exec_of_illegal {s : State} {i : Instr} {p : Prim} (h : Idle s) (hp : primOf i = some p)
    (hlegal : legalIn p s.busph = false) : exec i s = .next { s with proto := true, opdata := i.data } := by
  have hrun : BlockRun 1 (acceptPrim p i.data s) (refuse (acceptPrim p i.data s)) :=
    blockRun_prim rfl h.busy (primStep_of_illegal (s := acceptPrim p i.data s) rfl hlegal)
  exact exec_of_blockRun (t := { s with proto := true, opdata := i.data }) h hp hrun (by decide)
    ⟨h.op, h.seqStep, h.busy, h.bf, h.ph⟩

theorem exec_transaction_of_not_free {s : State} {i : Instr} {k : Kind} (h : Idle s) (hk : kindOf i = some k)
    (hbus : s.busph ≠ .free) : exec i s = .next { s with proto := true } := by
  have hready : s.ready = true := ready_of_idle h
  rw [exec_of_ready i hready, accept_of_kindOf hk, acceptTransaction_refused k hbus,
    runToReady_of_ready (s := raiseFault .proto s) hready]
  rfl

end Sys2Proof.Machine
end

section
/-!
The statements of 30_encoding.md about the issue of a command word (R81, R86) and 60_exceptions.md R184.
-/
namespace Sys2Proof.Proofs

open Sys2Proof.Machine Sys2Proof.Safety

/-- Settles O5: the three ways a program line's wait for `READY = 1` can come out. -/
theorem stepRunsDecodedInstruction : Obligations.StepRunsDecodedInstruction := by
  intro s w i r hagenda hdecode
  rw [step_cons hagenda, takeTurn_issue hdecode]
  exact ⟨fun hready => afterReady_of_ready _ hready, fun hready => afterReady_waited _ hready,
    fun hhung => afterReady_hung _ hhung⟩

/-- Settles O8: the word decodes to its command, and acceptance at `READY = 1` is the one step. -/
theorem primitiveAccepted : Obligations.PrimitiveAccepted := by
  intro s i p r hready hp hagenda
  refine ⟨_, ?_, rfl, opCode_of_primOf hp, not_ready_of_op rfl⟩
  have hwrite : writeCmd (encode i) { s with agenda := r } = accept i { s with agenda := r } := by
    rw [writeCmd, ready_withAgenda, if_pos hready, decode_encode]
  rw [step_cons hagenda, takeTurn, writeReg, if_pos rfl, hwrite, accept_of_primOf hp]
  rfl

/-- Settles O26: a refused primitive retires in its first step, and a refused transaction is never in progress. -/
theorem illegalPhaseSetsProto : Obligations.IllegalPhaseSetsProto := fun _ _ h =>
  ⟨fun _ hp hlegal => exec_of_illegal h hp hlegal, fun _ hk hbus => exec_transaction_of_not_free h hk hbus⟩

/-- Settles O49: every kind of turn, and every command, answers a next state. -/
theorem everyStepGivesANextState : Obligations.EveryStepGivesANextState := fun s =>
  takeTurn_gives_next s.nextTurn s.popTurn

end Sys2Proof.Proofs
end

section
/-!
Every step of an agent that is no stutter brings the command in progress nearer to its end: a measure of the steps that
are left, and its bound (40_bus_primitives.md R119, 41_transaction_sequencer.md R151, 70_reset_and_hazards.md R219).
-/
namespace Sys2Proof.Machine

open Sys2Proof.Safety

/-! ## The measure -/

/-- How many engine steps are owed to the bus: one for each request flag, two for a byte to be shifted out. -/
def engineLeft (s : State) : Nat :=
  s.sen.toNat + s.rsen.toNat + s.pen.toNat + s.rcen.toNat + s.acken.toNat +
    match s.txstat with
    | .idle => 0
    | .shift => 2
    | .ackWait => 1

/-- How many steps a primitive at a phase has left, less those already owed to the bus. -/
def phaseLeft (p : Prim) : Phase → Nat
  | .p0 => primSteps p
  | .p1 =>
    match p with
    | .writeByte | .readByte => 2
    | .start | .restart | .stop | .ack | .nack | .waitIdle => 1
  | .p2 => 1

/-- How many steps a transaction has left where a step of the microprogram begins: 61 of them from its acceptance
(95_test_vectors.md V-T10), and five on the abort path. -/
def seqLeft (q : Fin 19) : Nat :=
  match q.val with
  | 1 => 61
  | 2 => 57
  | 3 => 51
  | 4 => 50
  | 5 => 44
  | 6 => 43
  | 7 => 39
  | 8 => 33
  | 9 => 32
  | 10 => 27
  | 11 => 23
  | 12 => 18
  | 13 => 14
  | 14 => 9
  | 15 => 5
  | 16 => 1
  | 17 => 5
  | 18 => 1
  | _ => 0

/-- Where retirement takes the sequencer (41_transaction_sequencer.md R144). -/
def nextStep (k : Kind) (q : Fin 19) : Fin 19 :=
  match microprogram k q with
  | .prim _ _ _ n => n
  | .chkAck n => n
  | .done | .fail => 0
  | .idle => q

/-- How many steps the command in progress has left at most. -/
def stepsLeft (s : State) : Nat :=
  engineLeft s +
    match s.op with
    | some p => phaseLeft p s.ph + seqLeft (nextStep s.kind s.seqStep)
    | none => seqLeft s.seqStep

theorem stepsLeft_of_op {s : State} {p : Prim} (h : s.op = some p) :
    stepsLeft s = engineLeft s + (phaseLeft p s.ph + seqLeft (nextStep s.kind s.seqStep)) := by
  simp [stepsLeft, h]

theorem stepsLeft_of_none {s : State} (h : s.op = none) : stepsLeft s = engineLeft s + seqLeft s.seqStep := by
  simp [stepsLeft, h]

theorem engineLeft_of_not_busy {s : State} (h : s.busy = false) : engineLeft s = 0 := by
  obtain ⟨hsen, hrsen, hpen, hrcen, hacken, htx⟩ := (busy_eq_false_iff s).1 h
  simp [engineLeft, hsen, hrsen, hpen, hrcen, hacken, htx]

/-! ## The Bus engine's steps -/

theorem engineLeft_engineStep {s : State} (h : s.busy = true) : engineLeft (engineStep s) < engineLeft s := by
  rcases engineStep_cases s with ⟨hf, he⟩ | ⟨hf, he⟩ | ⟨hf, he⟩ | ⟨hf, he⟩ | ⟨hf, he⟩ | ⟨hf, he⟩ | ⟨hf, he⟩ | ⟨hf, -⟩
  · simp [he, engineStart, engineLeft, hf]
  · simp [he, engineRestart, engineLeft, hf]
  · simp [he, engineStop, engineLeft, hf]
  · simp [he, engineAck, engineLeft, hf]
  · simp [he, engineTxShift, engineLeft, hf]
  · simp [he, engineTxAck, engineLeft, hf]
  · simp [he, engineRx, engineLeft, hf]
  · simp [h] at hf

theorem stepsLeft_engineStep {s : State} (h : s.busy = true) : stepsLeft (engineStep s) < stepsLeft s := by
  obtain ⟨hop, -, hph⟩ := engineStep_executor s
  have hst := engineStep_sameRecord s
  simp only [stepsLeft, hop, hph, hst.kind, hst.seqStep]
  exact Nat.add_lt_add_right (engineLeft_engineStep h) _

/-! ## The Executor's steps -/

theorem engineLeft_retire (s : State) : engineLeft (retire s) = engineLeft s := by
  obtain ⟨post, n, h⟩ := retire_form s
  rw [h]
  cases post <;> rfl

theorem retire_seqStep (s : State) : (retire s).seqStep = nextStep s.kind s.seqStep := by
  unfold retire advanceSeq nextStep
  cases microprogram s.kind s.seqStep <;> rfl

theorem stepsLeft_retire {s t : State} {p : Prim} (hop : s.op = some p) (hleft : engineLeft t = engineLeft s)
    (hst : SameRecord s t) : stepsLeft (retire t) < stepsLeft s := by
  have hpos : 0 < phaseLeft p s.ph := by cases p <;> cases s.ph <;> decide
  rw [stepsLeft_of_op hop, stepsLeft_of_none (retire_op t), engineLeft_retire, retire_seqStep, hleft, hst.kind,
    hst.seqStep]
  omega

theorem stepsLeft_request {s : State} {p : Prim} (hop : s.op = some p) (hph : s.ph = .p0) (hp : p ≠ .waitIdle) :
    stepsLeft (request p s) < stepsLeft s := by
  have hst := request_sameRecord p s
  rw [stepsLeft_of_op hop, stepsLeft_of_op ((request_op p s).trans hop), request_ph hp, hph, hst.kind, hst.seqStep]
  have hleft : engineLeft (request p s) + phaseLeft p .p1 < engineLeft s + phaseLeft p .p0 := by
    cases p with
    | waitIdle => exact absurd rfl hp
    | writeByte => cases h : s.txstat <;> simp [engineLeft, request, phaseLeft, primSteps, h]
    | _ =>
      simp only [engineLeft, request, phaseLeft, primSteps, Bool.toNat_true]
      omega
  omega

/-- The primitives that pass to phase 2 are the two that move a byte. -/
theorem eq_of_passes {s : State} {p : Prim} (hop : s.op = some p) (hph : s.ph = .p1)
    (hpass : primStep p s = { s with ph := .p2 }) : p = .writeByte ∨ p = .readByte := by
  have hmoves : primStep p s ≠ s := fun h => by simpa [hph] using congrArg State.ph (hpass.symm.trans h)
  have hstays : primStep p s ≠ retire s := fun h => by simpa [hop] using congrArg State.op (hpass.symm.trans h)
  cases p with
  | writeByte => exact .inl rfl
  | readByte => exact .inr rfl
  | waitIdle => exact absurd (by simp [primStep, phaseWaitIdle, hph]) hmoves
  | start => cases hf : s.sen <;> simp [primStep, phaseStart, hph, hf] at hmoves hstays
  | restart => cases hf : s.rsen <;> simp [primStep, phaseRestart, hph, hf] at hmoves hstays
  | stop => cases hf : s.pen <;> simp [primStep, phaseStop, hph, hf] at hmoves hstays
  | ack => cases hf : s.acken <;> simp [primStep, phaseAck, hph, hf] at hmoves hstays
  | nack => cases hf : s.acken <;> simp [primStep, phaseNack, hph, hf] at hmoves hstays

theorem stepsLeft_pass {s : State} {p : Prim} (hop : s.op = some p) (hph : s.ph = .p1)
    (hpass : primStep p s = { s with ph := .p2 }) : stepsLeft { s with ph := .p2 } < stepsLeft s := by
  have hleft : phaseLeft p .p2 < phaseLeft p .p1 := by
    rcases eq_of_passes hop hph hpass with rfl | rfl <;> decide
  rw [stepsLeft_of_op hop, stepsLeft_of_op (s := { s with ph := .p2 }) hop, hph]
  exact Nat.add_lt_add_left (Nat.add_lt_add_right hleft _) _

theorem stepsLeft_primStep {s : State} {p : Prim} (hop : s.op = some p) :
    primStep p s = s ∨ stepsLeft (primStep p s) < stepsLeft s := by
  rcases primStep_cases p s with ⟨-, h⟩ | ⟨-, hm⟩
  · exact .inl h
  · right
    cases hm with
    | requests hph hp _ h => exact h ▸ stepsLeft_request hop hph hp
    | refused _ _ h => exact h ▸ stepsLeft_retire hop rfl (raiseFault_sameRecord .proto s)
    | passes hph h => exact h ▸ stepsLeft_pass hop hph h
    | retires h => exact h ▸ stepsLeft_retire hop (by cases p <;> rfl) (collect_sameRecord p s)

/-- The microprogram leads nearer to its end. -/
theorem seqLeft_microprogram_prim {k : Kind} {q n : Fin 19} {p : Prim} {d : Byte} {post : Post}
    (hm : microprogram k q = .prim p d post n) : seqLeft q = 1 + primSteps p + seqLeft n := by
  fin_cases q <;> simp [microprogram] at hm <;> obtain ⟨rfl, -, -, rfl⟩ := hm <;> rfl

theorem seqLeft_microprogram_chkAck {k : Kind} {q n : Fin 19} (hm : microprogram k q = .chkAck n) :
    seqLeft n < seqLeft q ∧ seqLeft 17 < seqLeft q := by
  rcases (microprogram_eq_chkAck_iff k q n).1 hm with ⟨rfl, rfl⟩ | ⟨rfl, rfl⟩ | ⟨rfl, rfl⟩ <;> decide

theorem microprogram_eq_fail_iff (k : Kind) (q : Fin 19) : microprogram k q = .fail ↔ q = 18 := by
  fin_cases q <;> simp [microprogram]

theorem stepsLeft_advance {s t : State} (hop : s.op = none) (hop' : t.op = s.op) (hleft : engineLeft t = engineLeft s)
    (hq : seqLeft t.seqStep < seqLeft s.seqStep) : stepsLeft t < stepsLeft s := by
  rw [stepsLeft_of_none hop, stepsLeft_of_none (hop'.trans hop), hleft]
  exact Nat.add_lt_add_left hq _

theorem stepsLeft_sequencerStep {s : State} (hop : s.op = none) :
    sequencerStep s = s ∨ stepsLeft (sequencerStep s) < stepsLeft s := by
  rcases sequencerStep_cases s with ⟨-, h⟩ | ⟨p, d, post, n, hm, h⟩ | ⟨n, hm, -, h⟩ | ⟨n, hm, -, -, h⟩ |
    ⟨n, -, -, -, h⟩ | ⟨hm, h⟩ | ⟨hm, h⟩
  · exact .inl h
  · have hq := seqLeft_microprogram_prim hm
    have hn : nextStep s.kind s.seqStep = n := by rw [nextStep, hm]
    have hleft : engineLeft (dispatch p d s) = engineLeft s := rfl
    right
    rw [h, stepsLeft_of_none hop, stepsLeft_of_op (dispatch_op p d s), dispatch_kind, dispatch_seqStep, hn, hleft,
      dispatch_ph, phaseLeft]
    omega
  · exact .inr (h ▸ stepsLeft_advance hop rfl rfl (seqLeft_microprogram_chkAck hm).1)
  · exact .inr (h ▸ stepsLeft_advance hop rfl rfl (seqLeft_microprogram_chkAck hm).2)
  · exact .inl h
  · exact .inr (h ▸ stepsLeft_advance hop rfl rfl (by simp [(microprogram_eq_done_iff _ _).1 hm, complete, seqLeft]))
  · exact .inr (h ▸ stepsLeft_advance hop rfl rfl (by simp [(microprogram_eq_fail_iff _ _).1 hm, abortDone, seqLeft]))

/-! ## Every step -/

/-- An agent's step is a stutter or leaves less to do. -/
theorem stepsLeft_agentStep (a : Agent) (s : State) :
    agentStep a s = s ∨ stepsLeft (agentStep a s) < stepsLeft s := by
  cases a with
  | engine =>
    cases hb : s.busy
    · exact .inl ((engineStep_eq_self_iff s).2 hb)
    · exact .inr (stepsLeft_engineStep hb)
  | executor =>
    show executorStep s = s ∨ stepsLeft (executorStep s) < stepsLeft s
    rcases executorStep_cases s with ⟨p, hop, h⟩ | ⟨hop, h⟩
    · exact h ▸ stepsLeft_primStep hop
    · exact h ▸ stepsLeft_sequencerStep hop

/-! ## The bound -/

theorem engineLeft_le_owedCount (s : State) : engineLeft s ≤ 2 * owedCount s := by
  have hshift : (TxStat.shift != .idle) = true := rfl
  have hwait : (TxStat.ackWait != .idle) = true := rfl
  unfold engineLeft owedCount
  cases s.txstat <;> simp [hshift, hwait] <;> omega

theorem seqLeft_le (q : Fin 19) : seqLeft q ≤ 61 := by
  revert q
  decide

theorem seqLeft_nextStep_le (k : Kind) (q : Fin 19) : seqLeft (nextStep k q) ≤ 57 := by
  revert q
  cases k <;> decide

/-- With the invariant the command in progress has no more steps left than a run may take. -/
theorem stepsLeft_le {s : State} (h : Inv s) : stepsLeft s ≤ commandFuel := by
  show stepsLeft s ≤ 64
  cases hop : s.op with
  | none =>
    rw [stepsLeft_of_none hop, engineLeft_of_not_busy ((execShape_none hop).1 h.exec).1]
    have := seqLeft_le s.seqStep
    omega
  | some p =>
    have hnext := seqLeft_nextStep_le s.kind s.seqStep
    rw [stepsLeft_of_op hop]
    cases hph : s.ph with
    | p0 =>
      have hshape : primShape p s = true := by simpa [execShape, hop] using h.exec
      have hsteps : phaseLeft p .p0 ≤ 5 := by cases p <;> decide
      rw [engineLeft_of_not_busy ((primShape_p0 p hph).1 hshape).1]
      omega
    | p1 | p2 =>
      have howed := engineLeft_le_owedCount s
      have hcount := (owedCount_and_bf_of_execShape h.exec).1
      have hsteps : phaseLeft p .p1 ≤ 2 ∧ phaseLeft p .p2 ≤ 2 := by cases p <;> decide
      omega

/-! ## Every run ends -/

/-- Under `ABORT` the block is not stuck before `READY = 1`. -/
theorem stepsLeft_blockStep {s : State} (h : Inv s) (hnoack : s.params.noack = .abort) (hready : s.ready = false) :
    stepsLeft (blockStep s) < stepsLeft s := by
  cases hb : s.busy with
  | true => exact blockStep_engine hb ▸ stepsLeft_engineStep hb
  | false =>
    rw [blockStep_executor hb]
    refine (stepsLeft_agentStep .executor s).resolve_left fun hstutter => ?_
    have hhung : Hung s := ⟨hready, fun a => by cases a; exacts [hstutter, (engineStep_eq_self_iff s).2 hb]⟩
    obtain ⟨hhang, -⟩ := Proofs.onlyHangIsTheMissingAcknowledge s h hhung
    simp [hnoack] at hhang

theorem ready_runToReady {n : Nat} {s : State} (h : Inv s) (hnoack : s.params.noack = .abort)
    (hn : stepsLeft s ≤ n) : (runToReady n s).ready = true := by
  induction n generalizing s with
  | zero =>
    cases hready : s.ready
    · have := stepsLeft_blockStep h hnoack hready
      omega
    · exact hready
  | succ n ih =>
    cases hready : s.ready
    · rw [runToReady_step hready]
      have hless := stepsLeft_blockStep h hnoack hready
      obtain ⟨a, ha⟩ := blockStep_agent s
      exact ih (ha ▸ inv_agentStep a h) (by rw [ha, agentStep_params, hnoack]) (by omega)
    · rwa [runToReady_of_ready hready]

/-- Under `ABORT` the Host's wait ends (70_reset_and_hazards.md R219). -/
theorem ready_waitReady {s : State} (h : Inv s) (hnoack : s.params.noack = .abort) : (waitReady s).ready = true :=
  ready_runToReady h hnoack (stepsLeft_le h)

/-- A run is a run of the block's agents. -/
theorem runToReady_eq_runAgents (n : Nat) (s : State) : ∃ l, runToReady n s = runAgents l s := by
  induction n generalizing s with
  | zero => exact ⟨[], rfl⟩
  | succ n ih =>
    cases hready : s.ready
    · obtain ⟨a, ha⟩ := blockStep_agent s
      obtain ⟨l, hl⟩ := ih (blockStep s)
      exact ⟨a :: l, by rw [runToReady_step hready, hl, ha, runAgents]⟩
    · exact ⟨[], runToReady_of_ready hready _⟩

/-! ## What belongs to the Host -/

/-- `t` has as `s` has them the Host's turns to come, and `FAULT.OVR`, which only a write by the Host sets
(60_exceptions.md R183). -/
def SameHost (s t : State) : Prop := t.agenda = s.agenda ∧ t.ovr = s.ovr

theorem sameHost_retire {s t : State} (h : SameHost s t) : SameHost s (retire t) := by
  obtain ⟨post, n, ht⟩ := retire_form t
  rw [ht]
  cases post <;> exact h

theorem sameHost_primStep (p : Prim) (s : State) : SameHost s (primStep p s) := by
  rcases primStep_cases p s with ⟨-, h⟩ | ⟨-, hm⟩
  · rw [h]
    exact ⟨rfl, rfl⟩
  · cases hm with
    | requests _ _ _ h => exact h ▸ (by cases p <;> exact ⟨rfl, rfl⟩)
    | refused _ _ h => exact h ▸ sameHost_retire ⟨rfl, rfl⟩
    | passes _ h => exact h ▸ ⟨rfl, rfl⟩
    | retires h => exact h ▸ sameHost_retire (by cases p <;> exact ⟨rfl, rfl⟩)

theorem sameHost_sequencerStep (s : State) : SameHost s (sequencerStep s) := by
  rcases sequencerStep_cases s with ⟨-, h⟩ | ⟨_, _, _, _, -, h⟩ | ⟨_, -, -, h⟩ | ⟨_, -, -, -, h⟩ | ⟨_, -, -, -, h⟩ |
    ⟨-, h⟩ | ⟨-, h⟩ <;> rw [h] <;> exact ⟨rfl, rfl⟩

theorem sameHost_agentStep (a : Agent) (s : State) : SameHost s (agentStep a s) := by
  cases a with
  | engine => apply engineStep_induction (P := SameHost s) <;> exact ⟨rfl, rfl⟩
  | executor =>
    show SameHost s (executorStep s)
    rcases executorStep_cases s with ⟨p, -, h⟩ | ⟨-, h⟩
    · exact h ▸ sameHost_primStep p s
    · exact h ▸ sameHost_sequencerStep s

theorem sameHost_accept (i : Instr) (s : State) : SameHost s (accept i s) := by
  have htrans (k : Kind) : SameHost s (acceptTransaction k s) := by
    unfold acceptTransaction
    split_ifs <;> exact ⟨rfl, rfl⟩
  cases i with
  | readTemperature => exact htrans .temperature
  | readHumidity => exact htrans .humidity
  | _ => exact ⟨rfl, rfl⟩

theorem sameHost_runToReady {s t : State} (n : Nat) (h : SameHost s t) : SameHost s (runToReady n t) :=
  runToReady_keeps (fun u a hu => ⟨(sameHost_agentStep a u).1.trans hu.1, (sameHost_agentStep a u).2.trans hu.2⟩) n h

end Sys2Proof.Machine
end

section
/-!
The statement of 30_encoding.md about a program line taken while a command is in progress (R86).
-/
namespace Sys2Proof.Proofs

open Sys2Proof.Machine Sys2Proof.Safety

/-- Settles O59: under `ABORT` every agent's step that is no stutter leaves less to do, so the wait ends; neither the
wait nor the command that follows it writes `OVR`. -/
theorem programLineWaitsForReady : Obligations.ProgramLineWaitsForReady := by
  intro s w i r h hnoack hagenda hdecode
  have hpop : Inv { s with agenda := r } := popTurn_cons hagenda ▸ inv_popTurn h
  have hready : (waitReady { s with agenda := r }).ready = true := ready_waitReady hpop hnoack
  obtain ⟨l, hl⟩ := runToReady_eq_runAgents commandFuel { s with agenda := r }
  have hstep : step s = exec i (runAgents l { s with agenda := r }) := by
    rw [step_cons hagenda, takeTurn_issue hdecode, afterReady_waited _ hready, waitReady, hl]
  rw [waitReady, hl] at hready
  have hwait : SameHost { s with agenda := r } (runAgents l { s with agenda := r }) :=
    hl ▸ sameHost_runToReady _ ⟨rfl, rfl⟩
  have hexec := exec_of_ready i hready
  obtain ⟨hagenda', hovr⟩ := sameHost_runToReady commandFuel (sameHost_accept i (runAgents l { s with agenda := r }))
  exact ⟨l, _, hready, hstep, hstep.trans hexec, hagenda'.trans hwait.1, hovr.trans hwait.2⟩

end Sys2Proof.Proofs
end

section
/-!
A transaction by the entries of its microprogram (41_transaction_sequencer.md R143 to R151), and a program of primitive
commands (30_encoding.md R86, R87).
-/
namespace Sys2Proof.Machine

open Sys2Proof.Safety

/-! ## One entry of the microprogram -/

/-- Between two entries of the microprogram, or after the last: nothing is in progress, and the bus is as the next entry
needs it. -/
structure AtEntry (s : State) : Prop where
  op : s.op = none
  ph : s.ph = .p0
  busy : s.busy = false
  bf : s.bf = false
  busph : s.seqStep ≠ 0 → s.busph = phaseBefore s.seqStep

/-- What an entry of the microprogram does, from its beginning to the beginning of the next. -/
def entryStep (s : State) : State :=
  match microprogram s.kind s.seqStep with
  | .prim p d post n => { doPost post (perform p d s) with seqStep := n }
  | .idle | .chkAck _ | .done | .fail => sequencerStep s

theorem entryStep_of_prim {s : State} {p : Prim} {d : Byte} {post : Post} {n : Fin 19}
    (hm : microprogram s.kind s.seqStep = .prim p d post n) :
    entryStep s = { doPost post (perform p d s) with seqStep := n } := by
  simp only [entryStep, hm]

theorem entryStep_of_not_prim {s : State} (hm : ∀ p d post n, microprogram s.kind s.seqStep ≠ .prim p d post n) :
    entryStep s = sequencerStep s := by
  unfold entryStep
  split
  · exact absurd ‹_› (hm _ _ _ _)
  all_goals rfl

theorem blockRun_prim_entry {s : State} {p : Prim} {d : Byte} {post : Post} {n : Fin 19} (h : AtEntry s)
    (hm : microprogram s.kind s.seqStep = .prim p d post n) : BlockRun (1 + primSteps p) s (entryStep s) := by
  have hq : s.seqStep ≠ 0 := fun hq => by simp [hq] at hm
  have hdispatch : executorStep s = dispatch p d s := by rw [executorStep_of_none h.op, sequencerStep, hm]
  have hlegal : legalIn p (dispatch p d s).busph = true := by
    rw [dispatch_busph, h.busph hq]
    exact (microprogram_prim_bus hm).1
  have hretire : retire (collect p (serve p (dispatch p d s))) = entryStep s := by
    have hst := perform_sameRecord p d s
    have hop := (perform_op p d s).trans h.op
    have hph := (perform_ph p d s).trans h.ph
    rw [entryStep_of_prim hm, show dispatch p d s = acceptPrim p d s from rfl, retire_acceptPrim,
      retire_inside (by rw [hst.kind, hst.seqStep, hm])]
    simp only [← hop, ← hph]
  have h1 : BlockRun 1 s (dispatch p d s) := hdispatch ▸ blockRun_executor (not_ready_of_seqStep hq) h.busy
  exact hretire ▸ h1.trans (blockRun_to_retirement rfl rfl h.busy h.bf hlegal)

theorem atEntry_prim_entry {s : State} {p : Prim} {d : Byte} {post : Post} {n : Fin 19} (h : AtEntry s)
    (hm : microprogram s.kind s.seqStep = .prim p d post n) : AtEntry (entryStep s) := by
  have hq : s.seqStep ≠ 0 := fun hq => by simp [hq] at hm
  obtain ⟨hlegal, hafter, -⟩ := microprogram_prim_bus hm
  have hbusph := perform_busph d (h.busph hq ▸ hlegal) hafter
  have hperform : (perform p d s).op = none ∧ (perform p d s).ph = .p0 ∧ (perform p d s).busy = false :=
    ⟨(perform_op p d s).trans h.op, (perform_ph p d s).trans h.ph, (perform_busy p d s).trans h.busy⟩
  have hbf := perform_bf p d h.bf
  obtain ⟨hop, hph, hbusy⟩ := hperform
  rw [entryStep_of_prim hm]
  cases post <;> exact ⟨hop, hph, hbusy, hbf, fun _ => hbusph⟩

theorem microprogram_chkAck_bus {k : Kind} {q n : Fin 19} (hm : microprogram k q = .chkAck n) :
    phaseBefore q = phaseBefore n ∧ phaseBefore q = phaseBefore 17 := by
  rcases (microprogram_eq_chkAck_iff k q n).1 hm with ⟨rfl, rfl⟩ | ⟨rfl, rfl⟩ | ⟨rfl, rfl⟩ <;> decide

/-- From where an entry begins the block comes to where the next begins, in no more steps than `seqLeft` counts. -/
def EntryRun (s t : State) : Prop := AtEntry t ∧ ∃ c, BlockRun c s t ∧ c + seqLeft t.seqStep ≤ seqLeft s.seqStep

theorem EntryRun.refl {s : State} (h : AtEntry s) : EntryRun s s := ⟨h, 0, .refl s, by omega⟩

theorem EntryRun.trans {s t u : State} (h : EntryRun s t) (h' : EntryRun t u) : EntryRun s u := by
  obtain ⟨-, c, hc, hle⟩ := h
  obtain ⟨hu, c', hc', hle'⟩ := h'
  exact ⟨hu, c + c', hc.trans hc', by omega⟩

/-- An acknowledge check, `DONE` and `FAIL` take one step of the sequencer. -/
theorem entryRun_of_sequencerStep {s t : State} (h : AtEntry s) (heq : sequencerStep s = t) (ht : AtEntry t)
    (hless : seqLeft t.seqStep < seqLeft s.seqStep) : EntryRun s t := by
  have hq : s.seqStep ≠ 0 := fun hq => by simp [hq, seqLeft] at hless
  have hstep : executorStep s = t := (executorStep_of_none h.op).trans heq
  exact ⟨ht, 1, hstep ▸ blockRun_executor (not_ready_of_seqStep hq) h.busy, by omega⟩

theorem entryRun_entryStep {s : State} (h : AtEntry s) : EntryRun s (entryStep s) := by
  have hsingle (hm : ∀ p d post n, microprogram s.kind s.seqStep ≠ .prim p d post n) := entryStep_of_not_prim hm
  have hq {e : Entry} (hm : microprogram s.kind s.seqStep = e) (he : e ≠ .idle) : s.seqStep ≠ 0 := fun hq =>
    he (hm.symm.trans ((microprogram_eq_idle_iff _ _).2 hq))
  rcases sequencerStep_cases s with ⟨hm, heq⟩ | ⟨p, d, post, n, hm, -⟩ | ⟨n, hm, -, heq⟩ | ⟨n, hm, -, -, heq⟩ |
    ⟨n, hm, -, -, heq⟩ | ⟨hm, heq⟩ | ⟨hm, heq⟩
  · rw [hsingle (by simp [hm]), heq]
    exact .refl h
  · refine ⟨atEntry_prim_entry h hm, _, blockRun_prim_entry h hm, ?_⟩
    rw [entryStep_of_prim hm, seqLeft_microprogram_prim hm]
  · rw [hsingle (by simp [hm])]
    refine heq ▸ entryRun_of_sequencerStep h heq ⟨h.op, h.ph, h.busy, h.bf, fun _ => ?_⟩
      (seqLeft_microprogram_chkAck hm).1
    exact (h.busph (hq hm nofun)).trans (microprogram_chkAck_bus hm).1
  · rw [hsingle (by simp [hm])]
    refine heq ▸ entryRun_of_sequencerStep h heq ⟨h.op, h.ph, h.busy, h.bf, fun _ => ?_⟩
      (seqLeft_microprogram_chkAck hm).2
    exact (h.busph (hq hm nofun)).trans (microprogram_chkAck_bus hm).2
  · rw [hsingle (by simp [hm]), heq]
    exact .refl h
  · rw [hsingle (by simp [hm])]
    refine heq ▸ entryRun_of_sequencerStep h heq ⟨h.op, h.ph, h.busy, h.bf, fun hne => absurd rfl hne⟩ ?_
    simp [(microprogram_eq_done_iff _ _).1 hm, complete, seqLeft]
  · rw [hsingle (by simp [hm])]
    refine heq ▸ entryRun_of_sequencerStep h heq ⟨h.op, h.ph, h.busy, h.bf, fun hne => absurd rfl hne⟩ ?_
    simp [(microprogram_eq_fail_iff _ _).1 hm, abortDone, seqLeft]

theorem entryRun_iterate {s : State} (h : AtEntry s) (n : Nat) : EntryRun s (entryStep^[n] s) := by
  induction n with
  | zero => exact .refl h
  | succ n ih =>
    rw [Function.iterate_succ_apply']
    exact ih.trans (entryRun_entryStep ih.1)

/-! ## A transaction as a command -/

/-- A transaction issued on a free bus, where `n` entries of the microprogram bring it to its end. -/
theorem exec_transaction_of_entries {s : State} {i : Instr} {k : Kind} (h : Idle s) (hk : kindOf i = some k)
    (hbus : s.busph = .free) (n : Nat)
    (hend : (entryStep^[n] { s with kind := k, tstat := .none, errstep := 0, seqStep := 1 }).seqStep = 0) :
    exec i s = .next (entryStep^[n] { s with kind := k, tstat := .none, errstep := 0, seqStep := 1 }) := by
  have hstart : AtEntry { s with kind := k, tstat := .none, errstep := 0, seqStep := 1 } :=
    ⟨h.op, h.ph, h.busy, h.bf, fun _ => hbus⟩
  obtain ⟨hat, c, hrun, hc⟩ := entryRun_iterate hstart n
  have hfuel : c ≤ commandFuel := (Nat.le_of_add_right_le hc).trans ((seqLeft_le _).trans (by decide))
  rw [exec_of_ready i (ready_of_idle h), accept_of_kindOf hk, acceptTransaction_free k hbus,
    hrun.runToReady_eq hfuel ((ready_iff _).2 ⟨hat.op, hend⟩)]

theorem entries_of_success {s : State} {k : Kind} {m l c : Byte} {as : List Bool} {bs : List Byte} (hbf : s.bf = false)
    (hbus : s.busph = .free) (hacks : s.acks = false :: false :: false :: as) (hbytes : s.bytes = m :: l :: c :: bs) :
    entryStep^[16] { s with kind := k, tstat := .none, errstep := 0, seqStep := 1 } =
      { s with
        trace := s.trace ++ successEvents k m l c, acks := as, bytes := bs,
        kind := k, tstat := .ok, errstep := 0, ackstat := false, ackdt := true, buf := c, rxdata := c, opdata := 0,
        msb := m, lsb := l, chk := c,
        raw := assembleRaw m l, result := decodeBits s.params.fmt k (assembleRaw m l), seqStep := 0 } := by
  simp [entryStep, perform, collect, serve, doPost, sequencerStep, checkAck, complete, emit,
    State.nextAck, State.nextByte, successEvents, hbf, hbus, hacks, hbytes]

/-! ## A program of primitive commands -/

theorem SameRecord.trans {s t u : State} (h : SameRecord s t) (h' : SameRecord t u) : SameRecord s u where
  seqStep := h'.seqStep.trans h.seqStep
  kind := h'.kind.trans h.kind
  msb := h'.msb.trans h.msb
  lsb := h'.lsb.trans h.lsb
  chk := h'.chk.trans h.chk
  raw := h'.raw.trans h.raw
  result := h'.result.trans h.result
  tstat := h'.tstat.trans h.tstat
  errstep := h'.errstep.trans h.errstep
  params := h'.params.trans h.params

/-- What a program of primitives does, each where the bus phase admits it. -/
def performAll : List Instr → State → State
  | [], s => s
  | i :: l, s =>
    match primOf i with
    | some p => performAll l (perform p i.data s)
    | none => performAll l s

/-- The program names primitives only, and from bus phase `b` on each is admitted by the phase it finds (R118). -/
def admitted : List Instr → BusPhase → Bool
  | [], _ => true
  | i :: l, b =>
    match primOf i with
    | some p => legalIn p b && admitted l ((busphAfter p).getD b)
    | none => false

theorem performAll_sameRecord (l : List Instr) (s : State) : SameRecord s (performAll l s) := by
  induction l generalizing s with
  | nil => exact .refl s
  | cons i l ih =>
    rw [performAll]
    split
    · exact (perform_sameRecord _ _ s).trans (ih _)
    · exact ih s

theorem perform_busph_getD {p : Prim} {s : State} (d : Byte) (hlegal : legalIn p s.busph = true) :
    (perform p d s).busph = (busphAfter p).getD s.busph := by
  cases h : busphAfter p with
  | some b => exact perform_busph d hlegal h
  | none => cases p <;> cases h; rfl

/-- A program of primitives, begun at the end of a run (30_encoding.md R86). -/
theorem runProgram_of_admitted {l : List Instr} {s : State} (h : Idle s) (hadm : admitted l s.busph = true) :
    runProgram l s = some (performAll l s) := by
  induction l generalizing s with
  | nil => rfl
  | cons i l ih =>
    cases hp : primOf i with
    | none => simp [admitted, hp] at hadm
    | some p =>
      obtain ⟨hlegal, hrest⟩ : legalIn p s.busph = true ∧ admitted l ((busphAfter p).getD s.busph) = true := by
        simpa [admitted, hp] using hadm
      rw [← perform_busph_getD i.data hlegal] at hrest
      rw [runProgram, afterReady_of_ready _ (ready_of_idle h), exec_of_legal h hp hlegal, performAll, hp]
      exact ih (idle_perform p i.data h) hrest

theorem admitted_expansion (k : Kind) : admitted (expansion k.command) .free = true := by cases k <;> decide

theorem performAll_expansion_trace {s : State} (k : Kind) {m l c : Byte} {as : List Bool} {bs : List Byte}
    (hacks : s.acks = false :: false :: false :: as) (hbytes : s.bytes = m :: l :: c :: bs) :
    (performAll (expansion k.command) s).trace = s.trace ++ successEvents k m l c := by
  cases k <;> simp [expansion, expansion.transactionCommands, Kind.command, performAll, primOf, Instr.data, perform,
    collect, serve, emit, State.nextAck, State.nextByte, successEvents, Config.devWaddr, Config.devRaddr, hacks, hbytes]

end Sys2Proof.Machine
end

section
/-!
The statement of 30_encoding.md about the twelve commands a transaction stands for (R87).
-/
namespace Sys2Proof.Proofs

open Sys2Proof.Machine Sys2Proof.Safety

/-- Settles O33: the program and the microprogram perform the same primitives, so both append the twelve events; no
primitive outside a transaction writes the sample or `TSTAT`. -/
theorem macroExpansionSameTrace : Obligations.MacroExpansionSameTrace := by
  intro s k m l c as bs h hbus hacks hbytes
  have hprogram := runProgram_of_admitted h (hbus ▸ admitted_expansion k)
  have hentries := entries_of_success (k := k) h.bf hbus hacks hbytes
  have htransaction := exec_transaction_of_entries h (kindOf_command k) hbus 16 (by rw [hentries])
  have htrace := performAll_expansion_trace k hacks hbytes
  have hst := performAll_sameRecord (expansion k.command) s
  refine ⟨by cases k <;> rfl, _, _, hprogram, htransaction, ?_, hst.msb, hst.lsb,
    hst.chk, hst.raw, hst.result, hst.tstat⟩
  rw [htrace, hentries]

end Sys2Proof.Proofs
end

section
/-!
The primitives phase by phase as the statements of 40_bus_primitives.md see them: a legal and a refused phase 0 (R100,
R118), the retirement of `READ_BYTE` (R108), and what the Executor can do while the Bus engine owes an event (R117).
-/
namespace Sys2Proof.Machine

open Sys2Proof.Safety

/-! ## Phase 0 and retirement as the Executor's step -/

theorem executorStep_of_legal {p : Prim} {s : State} (hop : s.op = some p) (hp : p ≠ .waitIdle) (hph : s.ph = .p0)
    (hlegal : legalIn p s.busph = true) : executorStep s = request p s := by
  rw [executorStep_of_op hop, primStep_p0 hp hph, if_pos hlegal]

theorem executorStep_of_illegal {p : Prim} {s : State} (hop : s.op = some p) (hph : s.ph = .p0)
    (hlegal : legalIn p s.busph = false) : executorStep s = refuse s := by
  rw [executorStep_of_op hop, primStep_of_illegal hph hlegal]

theorem executorStep_of_readByte_retires {s : State} (hop : s.op = some .readByte) (hph : s.ph = .p2)
    (hbusy : s.busy = false) : executorStep s = retire (collect .readByte s) := by
  rw [executorStep_of_op hop, primStep, phaseReadByte, hph]
  exact if_pos ((busIdle_iff s).2 hbusy)

/-- The retirement of a `READ_BYTE` that the microprogram dispatched, with its post-action. -/
theorem retire_readByte_inside {s : State} {d : Byte} {post : Post} {n : Fin 19}
    (hm : microprogram s.kind s.seqStep = .prim .readByte d post n) :
    retire (collect .readByte s) =
      { doPost post { s with rxdata := s.buf, bf := false, op := none, ph := .p0 } with seqStep := n } :=
  retire_inside (s := collect .readByte s) hm

/-! ## While the Bus engine owes an event -/

/-- While an event is owed to the bus the Executor waits, but that `WRITE_BYTE` may see `BF` cleared before the device's
answer is in (R107, R114). -/
theorem executorStep_of_inFlight {s : State} (h : InFlight s) :
    executorStep s = s ∨
      s.op = some .writeByte ∧ s.ph = .p1 ∧ s.bf = false ∧
        owes s false false false false false .ackWait = true ∧ executorStep s = { s with ph := .p2 } := by
  cases h with
  | start hop hph _ _ howes =>
    obtain ⟨hsen, -⟩ := (owes_iff ..).1 howes
    exact .inl (executorStep_of_stalls hop (.inl ⟨hph, hsen⟩))
  | restart hop hph _ _ howes =>
    obtain ⟨-, hrsen, -⟩ := (owes_iff ..).1 howes
    exact .inl (executorStep_of_stalls hop (.inl ⟨hph, hrsen⟩))
  | stop hop hph _ _ howes =>
    obtain ⟨-, -, hpen, -⟩ := (owes_iff ..).1 howes
    exact .inl (executorStep_of_stalls hop (.inl ⟨hph, hpen⟩))
  | acknowledge hop hph _ _ howes =>
    obtain ⟨-, -, -, -, hacken, -⟩ := (owes_iff ..).1 howes
    refine .inl (executorStep_of_stalls hop ?_)
    cases s.ackdt <;> exact .inl ⟨hph, hacken⟩
  | shift hop hph _ _ hbf _ => exact .inl (executorStep_of_stalls hop (.inl ⟨hph, hbf⟩))
  | receive hop hph _ hbf _ => exact .inl (executorStep_of_stalls hop (.inl ⟨hph, hbf⟩))
  | ackWait hop hph _ _ hbf howes =>
    obtain ⟨-, -, -, -, -, htx⟩ := (owes_iff ..).1 howes
    rcases hph with hph | hph
    · exact .inr ⟨hop, hph, hbf, howes, by simp [executorStep_of_op hop, primStep, phaseWriteByte, hph, hbf]⟩
    · exact .inl (executorStep_of_stalls hop (.inr ⟨hph, by simp [State.busy, htx]⟩))

/-- A step of the Executor takes back nothing that is owed to the bus. -/
theorem busy_executorStep {s : State} (h : Inv s) (hbusy : s.busy = true) : (executorStep s).busy = true := by
  rcases executorStep_of_inFlight (inFlight_of_busy h.exec hbusy) with heq | ⟨-, -, -, -, heq⟩
  · rwa [heq]
  · rw [heq]
    exact hbusy

theorem not_ready_of_inFlight {s : State} (h : InFlight s) : s.ready = false := by
  obtain ⟨p, hop⟩ := inFlight_op h
  exact not_ready_of_op hop

/-- While an event is owed to the bus no command is accepted, so a Host write sets a fault bit at most. -/
theorem busy_writeReg {s : State} (h : Inv s) (hbusy : s.busy = true) (n : Nat) (w : Word) :
    (writeReg n w s).busy = true := by
  rcases writeReg_cases n w s with heq | ⟨f, heq⟩ | ⟨i, hready, -⟩
  · rwa [heq]
  · rw [heq]
    cases f <;> exact hbusy
  · simp [not_ready_of_inFlight (inFlight_of_busy h.exec hbusy)] at hready

end Sys2Proof.Machine
end

section
/-!
The statements of 40_bus_primitives.md about single steps: phase 0 (R100 to R108), the legality table (R118), the Bus
engine (R110 to R117).
-/
namespace Sys2Proof.Proofs

open Sys2Proof.Machine Sys2Proof.Safety

/-- Settles O27: the cells, one by one. -/
theorem legalityTable : Obligations.LegalityTable := by
  intro p b
  cases p <;> cases b <;> decide

/-- Settles O10: in the bus phase that admits it a primitive makes its request. -/
theorem phaseZeroSetsTheRequest : Obligations.PhaseZeroSetsTheRequest := by
  intro s hph
  refine ⟨?_, ?_, ?_, ?_, ?_, ?_, ?_⟩ <;>
    exact fun hop hbus => executorStep_of_legal hop nofun hph (hbus ▸ rfl)

/-- Settles O11: a refusal outside a transaction. -/
theorem phaseZeroRefusesByTheTable : Obligations.PhaseZeroRefusesByTheTable := fun s p hop hph hq hlegal => by
  rw [executorStep_of_illegal hop hph hlegal, refuse_outside hq]

/-- Settles O13: the retirement outside a transaction, and with the post-actions of entries 9, 11 and 13. -/
theorem readByteRetires : Obligations.ReadByteRetires := by
  intro s hop hph hbusy
  rw [executorStep_of_readByte_retires hop hph hbusy]
  exact ⟨fun hq => retire_outside (s := collect .readByte s) hq,
    fun hq => retire_readByte_inside (hq ▸ microprogram_9 s.kind),
    fun hq => retire_readByte_inside (hq ▸ microprogram_11 s.kind),
    fun hq => retire_readByte_inside (hq ▸ microprogram_13 s.kind)⟩

/-- Settles O16: with the invariant at most one thing is owed to the bus, and the engine's step is the one that R110 to
R116 give for it. -/
theorem engineStepsAsRuled : Obligations.EngineStepsAsRuled := by
  intro s h
  cases hbusy : s.busy with
  | false =>
    obtain ⟨hsen, hrsen, hpen, hrcen, hacken, htx⟩ := (busy_eq_false_iff s).1 hbusy
    simp [hsen, hrsen, hpen, hrcen, hacken, htx]
  | true =>
    cases inFlight_of_busy h.exec hbusy with
    | start _ _ _ _ howes => simp_all [owes_iff, engineStep, engineStart, emit]
    | restart _ _ _ _ howes => simp_all [owes_iff, engineStep, engineRestart, emit]
    | stop _ _ _ _ howes => simp_all [owes_iff, engineStep, engineStop, emit]
    | acknowledge _ _ _ _ howes => simp_all [owes_iff, engineStep, engineAck, emit]
    | shift _ _ _ _ _ howes => simp_all [owes_iff, engineStep, engineTxShift]
    | ackWait _ _ _ _ _ howes => simp_all [owes_iff, engineStep, engineTxAck, emit]
    | receive _ _ _ _ howes => simp_all [owes_iff, engineStep, engineRx, emit]

/-- Settles O17: the engine's step is a stutter only while nothing is owed, and no other agent pays what is owed. -/
theorem engineStepStaysEnabled : Obligations.EngineStepStaysEnabled := by
  intro s h
  have henabled : Enabled .engine s ↔ s.busy = true :=
    (not_congr (engineStep_eq_self_iff s)).trans (Bool.not_eq_false _).to_iff
  exact ⟨henabled, fun hbusy => ⟨busy_executorStep h hbusy, fun n w => ⟨busy_writeReg h hbusy n w, hbusy⟩⟩⟩

end Sys2Proof.Proofs
end

section
/-!
The frame of the eight primitives as commands (40_bus_primitives.md R119): what `perform` writes, and the three ways a
primitive's command can come out.
-/
namespace Sys2Proof.Machine

open Sys2Proof.Safety

/-! ## What no primitive's command writes -/

/-- `t` has as `s` has them what no primitive's command writes, whether it is performed, refused or overrun
(10_state.md R33 to R38): the sample and the sequencer, `ILLCMD`, the Host's fields, the Executor's own registers. -/
structure PrimKeeps (s t : State) : Prop extends SameRecord s t where
  illcmd : t.illcmd = s.illcmd
  agenda : t.agenda = s.agenda
  tick : t.tick = s.tick
  hostRd : t.hostRd = s.hostRd
  op : t.op = s.op
  ph : t.ph = s.ph
  busy : t.busy = s.busy
  bf : t.bf = s.bf

/-- From `s` to `t` the bus and the buffer changed as primitive `p` may change them: at most one event, and each
register by the primitive that R101 to R116 let write it. -/
structure PrimWrites (p : Prim) (s t : State) : Prop where
  trace : t.trace = s.trace ∨ ∃ e, t.trace = s.trace ++ [e]
  answer : p ≠ .writeByte → t.ackstat = s.ackstat ∧ t.acks = s.acks
  received : p ≠ .readByte → t.rxdata = s.rxdata ∧ t.bytes = s.bytes
  buf : p ≠ .writeByte → p ≠ .readByte → t.buf = s.buf
  ackdt : p ≠ .ack → p ≠ .nack → t.ackdt = s.ackdt
  busph : p = .restart ∨ p = .waitIdle ∨ p = .writeByte → t.busph = s.busph

/-- A command that writes fault bits and `OPDATA` alone: an overrun or a refusal. -/
theorem primKeeps_of_faults (s : State) (d : Byte) (o q : Bool) :
    PrimKeeps s { s with opdata := d, ovr := o, proto := q } := by
  constructor <;> try rfl
  constructor <;> rfl

theorem primWrites_of_faults (p : Prim) (s : State) (d : Byte) (o q : Bool) :
    PrimWrites p s { s with opdata := d, ovr := o, proto := q } :=
  ⟨.inl rfl, fun _ => ⟨rfl, rfl⟩, fun _ => ⟨rfl, rfl⟩, fun _ _ => rfl, fun _ _ => rfl, fun _ => rfl⟩

theorem perform_primKeeps {s : State} (p : Prim) (d : Byte) (hbf : s.bf = false) : PrimKeeps s (perform p d s) where
  toSameRecord := perform_sameRecord p d s
  illcmd := by cases p <;> rfl
  agenda := by cases p <;> rfl
  tick := by cases p <;> rfl
  hostRd := by cases p <;> rfl
  op := perform_op p d s
  ph := perform_ph p d s
  busy := perform_busy p d s
  bf := (perform_bf p d hbf).trans hbf.symm

theorem perform_trace (p : Prim) (d : Byte) (s : State) :
    (perform p d s).trace = s.trace ∨ ∃ e, (perform p d s).trace = s.trace ++ [e] := by
  cases p with
  | waitIdle => exact .inl rfl
  | _ => exact .inr ⟨_, rfl⟩

theorem perform_primWrites (p : Prim) (d : Byte) (s : State) : PrimWrites p s (perform p d s) where
  trace := perform_trace p d s
  answer hp := by
    cases p with
    | writeByte => exact absurd rfl hp
    | _ => exact ⟨rfl, rfl⟩
  received hp := by
    cases p with
    | readByte => exact absurd rfl hp
    | _ => exact ⟨rfl, rfl⟩
  buf hw hr := by
    cases p with
    | writeByte => exact absurd rfl hw
    | readByte => exact absurd rfl hr
    | _ => rfl
  ackdt ha hn := by
    cases p with
    | ack => exact absurd rfl ha
    | nack => exact absurd rfl hn
    | _ => rfl
  busph hp := by rcases hp with rfl | rfl | rfl <;> rfl

@[simp] theorem perform_ovr (p : Prim) (d : Byte) (s : State) : (perform p d s).ovr = s.ovr := by cases p <;> rfl
@[simp] theorem perform_proto (p : Prim) (d : Byte) (s : State) : (perform p d s).proto = s.proto := by cases p <;> rfl
@[simp] theorem perform_opdata (p : Prim) (d : Byte) (s : State) : (perform p d s).opdata = d := by cases p <;> rfl

/-! ## How a primitive's command can come out -/

/-- The three outcomes of a primitive's command: it overruns (60_exceptions.md R183), it is refused (R184), or it is
performed. -/
inductive PrimOutcome (i : Instr) (p : Prim) (s t : State) : Prop where
  | overrun (hready : s.ready = false) (h : t = { s with ovr := true })
  | refused (hready : s.ready = true) (hlegal : legalIn p s.busph = false)
      (h : t = { s with proto := true, opdata := i.data })
  | performed (hready : s.ready = true) (hlegal : legalIn p s.busph = true) (hbf : s.bf = false)
      (h : t = perform p i.data s)

theorem primOutcome_of_exec {s t : State} {i : Instr} {p : Prim} (h : Inv s) (hp : primOf i = some p)
    (ht : exec i s = .next t) : PrimOutcome i p s t := by
  cases hready : s.ready with
  | false =>
    rw [exec_eq_issueCommand, issueCommand_busy _ hready] at ht
    exact .overrun hready (by cases ht; rfl)
  | true =>
    have hidle := Proofs.readyMeansIdle s h hready
    cases hlegal : legalIn p s.busph with
    | false =>
      rw [exec_of_illegal hidle hp hlegal] at ht
      exact .refused hready hlegal (by cases ht; rfl)
    | true =>
      rw [exec_of_legal hidle hp hlegal] at ht
      exact .performed hready hlegal hidle.bf (by cases ht; rfl)

theorem PrimOutcome.frame {s t : State} {i : Instr} {p : Prim} (h : PrimOutcome i p s t) :
    PrimKeeps s t ∧ PrimWrites p s t := by
  cases h with
  | overrun _ ht => exact ht ▸ ⟨primKeeps_of_faults s _ _ _, primWrites_of_faults p s _ _ _⟩
  | refused _ _ ht => exact ht ▸ ⟨primKeeps_of_faults s _ _ _, primWrites_of_faults p s _ _ _⟩
  | performed _ _ hbf ht => exact ht ▸ ⟨perform_primKeeps p i.data hbf, perform_primWrites p i.data s⟩

end Sys2Proof.Machine
end

section
/-!
The statements of 40_bus_primitives.md about the primitives as whole commands (R119).
-/
namespace Sys2Proof.Proofs

open Sys2Proof.Machine Sys2Proof.Safety

/-- Settles O19: the free bus admits `START`, and what it performs is the engine's `S`. -/
theorem startCompletes : Obligations.StartCompletes := fun _ h hbus =>
  exec_of_legal h rfl (congrArg (legalIn .start) hbus)

/-- Settles O20: the owned bus admits `RESTART`, and what it performs is the engine's `Sr`. -/
theorem restartCompletes : Obligations.RestartCompletes := fun _ h hbus =>
  exec_of_legal h rfl (congrArg (legalIn .restart) hbus)

/-- Settles O21: the owned bus admits `STOP`, and what it performs is the engine's `P`. -/
theorem stopCompletes : Obligations.StopCompletes := fun _ h hbus =>
  exec_of_legal h rfl (congrArg (legalIn .stop) hbus)

/-- Settles O22: a bus with an acknowledge owed admits both, and each writes the `ACKDT` the engine drives. -/
theorem ackAndNackComplete : Obligations.AckAndNackComplete := fun _ h hbus =>
  ⟨exec_of_legal h rfl (congrArg (legalIn .ack) hbus), exec_of_legal h rfl (congrArg (legalIn .nack) hbus)⟩

/-- Settles O23: `WAIT_IDLE` is admitted in every bus phase and performs nothing. -/
theorem waitIdleCompletes : Obligations.WaitIdleCompletes := fun _ h => exec_of_legal h rfl (legalIn_waitIdle _)

/-- Settles O24: the device's answer is the one drawn for the byte in `OPDATA`. -/
theorem writeByteCompletes : Obligations.WriteByteCompletes := fun _ _ h hbus =>
  exec_of_legal h rfl (congrArg (legalIn .writeByte) hbus)

/-- Settles O25: the retirement clears `BF`, which was clear before the command. -/
theorem readByteCompletes : Obligations.ReadByteCompletes := by
  intro s h hbus
  have hbf : s.bf = false := h.bf
  rw [exec_of_legal h rfl (congrArg (legalIn .readByte) hbus)]
  simp only [perform, collect, serve, emit, State.nextByte, ← hbf, Instr.data]

/-- Settles O28: an overrun and a refusal write fault bits and `OPDATA` alone; a primitive that is performed writes its
own registers. -/
theorem primitiveFrame : Obligations.PrimitiveFrame := by
  intro s t i p h hp ht
  have houtcome := primOutcome_of_exec h hp ht
  obtain ⟨hkeeps, hwrites⟩ := houtcome.frame
  refine ⟨⟨hkeeps.msb, hkeeps.lsb, hkeeps.chk, hkeeps.raw, hkeeps.result⟩,
    ⟨hkeeps.kind, hkeeps.tstat, hkeeps.errstep, hkeeps.seqStep⟩,
    ⟨hkeeps.illcmd, hkeeps.params, hkeeps.agenda, hkeeps.tick, hkeeps.hostRd⟩,
    ⟨hkeeps.op, hkeeps.ph, hkeeps.busy, hkeeps.bf⟩, hwrites.trace, hwrites.answer, hwrites.received, hwrites.buf,
    hwrites.ackdt, hwrites.busph, ?_⟩
  cases houtcome with
  | overrun hready heq => simp [hready, heq]
  | refused hready hlegal heq => simp [hready, hlegal, heq]
  | performed hready hlegal _ heq => simp [hready, hlegal, heq]

end Sys2Proof.Proofs
end

section
/-!
Any order of the agents' turns (40_bus_primitives.md R119, 41_transaction_sequencer.md R151): the state in which a
command ends does not depend on it, and under weak fairness a command ends (R117, 70_reset_and_hazards.md R219).
-/
namespace Sys2Proof.Machine

open Sys2Proof.Safety

/-! ## Where a run of the block leads -/

theorem runToReady_of_stutter {s : State} (h : blockStep s = s) (n : Nat) : runToReady n s = s := by
  induction n with
  | zero => rfl
  | succ n ih => rw [runToReady, h, ih, ite_self]

theorem blockStep_stutters_or_less (s : State) : blockStep s = s ∨ stepsLeft (blockStep s) < stepsLeft s := by
  obtain ⟨a, ha⟩ := blockStep_agent s
  exact ha ▸ stepsLeft_agentStep a s

/-- With fuel for all the steps that are left, one step more changes nothing. -/
theorem runToReady_succ {n : Nat} {s : State} (h : stepsLeft s ≤ n) : runToReady (n + 1) s = runToReady n s := by
  induction n generalizing s with
  | zero =>
    have hstutter : blockStep s = s := (blockStep_stutters_or_less s).resolve_right (by omega)
    exact runToReady_of_stutter hstutter 1
  | succ n ih =>
    rcases blockStep_stutters_or_less s with hstutter | hless
    · simp only [runToReady_of_stutter hstutter]
    · show (if s.ready then s else runToReady (n + 1) (blockStep s)) = _
      rw [ih (by omega), runToReady]

/-! ## The order of the turns does not matter -/

/-- With the invariant no agent has a step at `READY = 1`. -/
theorem agentStep_of_ready {s : State} (a : Agent) (h : Inv s) (hready : s.ready = true) : agentStep a s = s := by
  obtain ⟨hop, hq, hbusy, -, -⟩ := Proofs.readyMeansIdle s h hready
  cases a with
  | engine => exact (engineStep_eq_self_iff s).2 hbusy
  | executor => exact (executorStep_of_none hop).trans (by simp [sequencerStep, hq])

/-- The block's own next step leads where its run leads. -/
theorem runToReady_blockStep {s : State} (h : Inv s) :
    runToReady commandFuel (blockStep s) = runToReady commandFuel s := by
  cases hready : s.ready with
  | true =>
    obtain ⟨a, ha⟩ := blockStep_agent s
    rw [ha, agentStep_of_ready a h hready]
  | false => rw [← runToReady_step hready, runToReady_succ (stepsLeft_le h)]

/-- Where the device's answer is all that is owed to the bus, the engine's step draws it, and nothing is owed after. -/
theorem engineStep_of_ackWait {s : State} (howes : owes s false false false false false .ackWait = true) :
    engineStep s = engineTxAck s ∧ (engineTxAck s).busy = false := by
  obtain ⟨hsen, hrsen, hpen, hrcen, hacken, htx⟩ := (owes_iff ..).1 howes
  simp [engineStep, engineTxAck, State.busy, hsen, hrsen, hpen, hrcen, hacken, htx]

/-- While an event is owed to the bus, the Executor's step, where it is no stutter, and the engine's may come in either
order: it is `WRITE_BYTE`'s passage to phase 2, which neither reads nor writes what the engine does with the answer. -/
theorem executorStep_engineStep_comm {s : State} (h : InFlight s) (hne : executorStep s ≠ s) :
    executorStep (engineStep s) = engineStep (executorStep s) ∧ (engineStep s).busy = false := by
  obtain ⟨hop, hph, hbf, howes, hpass⟩ := (executorStep_of_inFlight h).resolve_left hne
  obtain ⟨hanswer, hidle⟩ := engineStep_of_ackWait howes
  obtain ⟨hanswer', -⟩ := engineStep_of_ackWait (s := { s with ph := .p2 }) howes
  rw [hpass, hanswer, hanswer']
  exact ⟨by simp [executorStep, primStep, phaseWriteByte, engineTxAck, State.nextAck, emit, hop, hph, hbf], hidle⟩

/-- While an event is owed to the bus, an Executor's step taken first is overtaken by the engine's. -/
theorem runToReady_executorStep_of_busy {s : State} (h : Inv s) (hbusy : s.busy = true) :
    runToReady commandFuel (executorStep s) = runToReady commandFuel (engineStep s) := by
  by_cases hne : executorStep s = s
  · rw [hne, ← blockStep_engine hbusy, runToReady_blockStep h]
  · have hexec : Inv (executorStep s) := inv_agentStep .executor h
    obtain ⟨hcomm, hidle⟩ := executorStep_engineStep_comm (inFlight_of_busy h.exec hbusy) hne
    calc runToReady commandFuel (executorStep s)
        = runToReady commandFuel (engineStep (executorStep s)) := by
          rw [← blockStep_engine (busy_executorStep h hbusy), runToReady_blockStep hexec]
      _ = runToReady commandFuel (executorStep (engineStep s)) := by rw [hcomm]
      _ = runToReady commandFuel (engineStep s) := by
          rw [← blockStep_executor hidle, runToReady_blockStep (inv_engineStep h)]

/-- No agent's step leads the run of the block elsewhere. -/
theorem runToReady_agentStep {s : State} (a : Agent) (h : Inv s) :
    runToReady commandFuel (agentStep a s) = runToReady commandFuel s := by
  rw [← runToReady_blockStep h]
  cases hbusy : s.busy with
  | false =>
    rw [blockStep_executor hbusy]
    cases a with
    | executor => rfl
    | engine => rw [agentStep, (engineStep_eq_self_iff s).2 hbusy, ← blockStep_executor hbusy, runToReady_blockStep h]
  | true =>
    rw [blockStep_engine hbusy]
    cases a with
    | executor => exact runToReady_executorStep_of_busy h hbusy
    | engine => rfl

theorem runToReady_runAgents {s : State} (l : List Agent) (h : Inv s) :
    runToReady commandFuel (runAgents l s) = runToReady commandFuel s := by
  induction l generalizing s with
  | nil => rfl
  | cons a l ih => rw [runAgents, ih (inv_agentStep a h), runToReady_agentStep a h]

/-! ## Weak fairness -/

theorem inv_stateAt {s : State} (sched : Nat → Agent) (h : Inv s) (n : Nat) : Inv (stateAt sched s n) := by
  induction n with
  | zero => exact h
  | succ n ih => exact inv_agentStep _ ih

theorem stateAt_params (sched : Nat → Agent) (s : State) (n : Nat) : (stateAt sched s n).params = s.params := by
  induction n with
  | zero => rfl
  | succ n ih => exact (agentStep_params _ _).trans ih

/-- Under `ABORT` some agent has a step while `READY = 0`. -/
theorem enabled_of_not_ready {s : State} (h : Inv s) (hnoack : s.params.noack = .abort) (hready : s.ready = false) :
    ∃ a, Enabled a s := by
  by_contra hnone
  obtain ⟨hhang, -⟩ := Proofs.onlyHangIsTheMissingAcknowledge s h ⟨hready, by simpa [Enabled] using hnone⟩
  simp [hnoack] at hhang

/-- A weakly fair schedule does not stutter for ever where an agent has a step: that agent's turn comes. -/
theorem exists_step_of_weaklyFair {sched : Nat → Agent} {s : State} (hfair : WeaklyFair sched s) {n : Nat} {a : Agent}
    (ha : Enabled a (stateAt sched s n)) :
    ∃ m, stateAt sched s m = stateAt sched s n ∧ stateAt sched s (m + 1) ≠ stateAt sched s m := by
  by_contra hnone
  push Not at hnone
  have hstill (m : Nat) (hm : n ≤ m) : stateAt sched s m = stateAt sched s n := by
    induction m, hm using Nat.le_induction with
    | base => rfl
    | succ m hm ih => exact (hnone m ih).trans ih
  obtain ⟨m, hm, hturn⟩ := hfair n a fun m hm => (hstill m hm).symm ▸ ha
  refine ha ?_
  rw [← hstill m hm, ← hturn]
  exact hnone m (hstill m hm)

/-- Under `ABORT` a weakly fair schedule comes to `READY = 1`: each step that is no stutter leaves less to do. -/
theorem ready_stateAt_of_weaklyFair {sched : Nat → Agent} {s : State} (h : Inv s) (hnoack : s.params.noack = .abort)
    (hfair : WeaklyFair sched s) (n : Nat) : ∃ m, (stateAt sched s m).ready = true := by
  induction hk : stepsLeft (stateAt sched s n) using Nat.strong_induction_on generalizing n with
  | _ k ih =>
    cases hready : (stateAt sched s n).ready with
    | true => exact ⟨n, hready⟩
    | false =>
      obtain ⟨a, ha⟩ :=
        enabled_of_not_ready (inv_stateAt sched h n) ((stateAt_params sched s n).symm ▸ hnoack) hready
      obtain ⟨m, hsame, hmoves⟩ := exists_step_of_weaklyFair hfair ha
      have hless : stepsLeft (stateAt sched s (m + 1)) < stepsLeft (stateAt sched s m) :=
        (stepsLeft_agentStep (sched m) (stateAt sched s m)).resolve_left hmoves
      exact ih _ (hk ▸ hsame ▸ hless) (m + 1) rfl

end Sys2Proof.Machine
end

section
/-!
The statements about schedules: every order of the turns ends in the command's meaning (R119, R151), and a weakly fair
one ends (R117).
-/
namespace Sys2Proof.Proofs

open Sys2Proof.Machine Sys2Proof.Safety

/-- Settles O37: no turn of either agent changes where the engine-first run leads, and at `READY = 1` it is over. -/
theorem everyScheduleEndsInTheMeaning : Obligations.EveryScheduleEndsInTheMeaning := by
  intro s i l h hready hend
  rw [exec_of_ready i hready, ← runToReady_runAgents l (inv_accept i h hready), runToReady_of_ready hend]

/-- Settles O38: under `ABORT` the block has a step until `READY = 1`, and every step leaves less to do. -/
theorem fairSchedulesRetire : Obligations.FairSchedulesRetire := fun s i _ h hready hnoack hfair =>
  ready_stateAt_of_weaklyFair (inv_accept i h hready) ((accept_params i s).symm ▸ hnoack) hfair 0

end Sys2Proof.Proofs
end

section
/-!
The steps of the sequencer one by one (41_transaction_sequencer.md R140 to R148): acceptance by the write of a command
word, the step at each kind of entry, what retirement makes of the abort path and of `FAULT.PROTO`; and the raw sample in
numbers (R152).
-/
namespace Sys2Proof.Machine

open Sys2Proof.Safety

/-! ## The write of a command's word (30_encoding.md R81) -/

theorem writeReg_encode {s : State} (hready : s.ready = true) (i : Instr) : writeReg 0 (encode i) s = accept i s := by
  rw [writeReg, if_pos rfl, writeCmd, if_pos hready, decode_encode]

/-! ## The sequencer's step by the entry (R143 to R148) -/

theorem executorStep_of_prim {s : State} {p : Prim} {d : Byte} {post : Post} {n : Fin 19} (hop : s.op = none)
    (hm : microprogram s.kind s.seqStep = .prim p d post n) : executorStep s = dispatch p d s := by
  rw [executorStep_of_none hop, sequencerStep, hm]

theorem executorStep_of_chkAck {s : State} {n : Fin 19} (hop : s.op = none)
    (hm : microprogram s.kind s.seqStep = .chkAck n) : executorStep s = checkAck n s := by
  rw [executorStep_of_none hop, sequencerStep, hm]

theorem executorStep_of_done {s : State} (hop : s.op = none) (hm : microprogram s.kind s.seqStep = .done) :
    executorStep s = complete s := by
  rw [executorStep_of_none hop, sequencerStep, hm]

theorem executorStep_of_fail {s : State} (hop : s.op = none) (hm : microprogram s.kind s.seqStep = .fail) :
    executorStep s = abortDone s := by
  rw [executorStep_of_none hop, sequencerStep, hm]

theorem checkAck_of_acknowledged {s : State} (ha : s.ackstat = false) (n : Fin 19) :
    checkAck n s = { s with seqStep := n } := by
  simp [checkAck, ha]

theorem checkAck_of_abort {s : State} (ha : s.ackstat = true) (hp : s.params.noack = .abort) (n : Fin 19) :
    checkAck n s = { s with errstep := s.seqStep, seqStep := 17 } := by
  simp [checkAck, ha, hp]

theorem checkAck_of_hang {s : State} (ha : s.ackstat = true) (hp : s.params.noack = .hang) (n : Fin 19) :
    checkAck n s = s := by
  simp [checkAck, ha, hp]

/-! ## `FAULT.PROTO` inside a transaction (R144) -/

@[simp] theorem retire_proto (s : State) : (retire s).proto = s.proto := by
  obtain ⟨post, n, h⟩ := retire_form s
  simp [h]

theorem sequencerStep_proto (s : State) : (sequencerStep s).proto = s.proto := by
  rcases sequencerStep_cases s with ⟨-, h⟩ | ⟨_, _, _, _, -, h⟩ | ⟨_, -, -, h⟩ | ⟨_, -, -, -, h⟩ | ⟨_, -, -, -, h⟩ |
    ⟨-, h⟩ | ⟨-, h⟩ <;> rw [h] <;> rfl

/-- Only a refusal writes `FAULT.PROTO`, and inside a transaction there is none. -/
theorem primStep_proto {s : State} {p : Prim} (hseq : seqShape s = true) (hq : s.seqStep ≠ 0) (hop : s.op = some p) :
    (primStep p s).proto = s.proto := by
  rcases primStep_cases p s with ⟨-, h⟩ | ⟨-, hm⟩
  · rw [h]
  · cases hm with
    | requests _ _ _ h => rw [h]; cases p <;> rfl
    | refused hph hlegal _ => exact absurd (seqStep_eq_zero_of_illegal hseq hop hph hlegal) hq
    | passes _ h => rw [h]
    | retires h => rw [h, retire_proto]; cases p <;> rfl

/-! ## The abort path (R145, R146, R148) -/

/-- The policy is `HANG`, and the sequencer is not on the abort path and has no `NOACK` outcome. -/
def OffAbortPath (s : State) : Prop :=
  s.params.noack = .hang ∧ s.seqStep ≠ 17 ∧ s.seqStep ≠ 18 ∧ s.tstat ≠ .noack

theorem offAbortPath_of_sameRecord {s t : State} (hst : SameRecord s t) (h : OffAbortPath s) : OffAbortPath t := by
  rwa [OffAbortPath, hst.params, hst.seqStep, hst.tstat]

/-- Retirement enters the abort path from the abort path only. -/
theorem nextStep_off_abort_path (k : Kind) (q : Fin 19) (h17 : q ≠ 17) (h18 : q ≠ 18) :
    nextStep k q ≠ 17 ∧ nextStep k q ≠ 18 := by
  revert q
  cases k <;> decide

theorem offAbortPath_retire {s : State} (h : OffAbortPath s) : OffAbortPath (retire s) := by
  obtain ⟨hhang, h17, h18, ht⟩ := h
  obtain ⟨hn17, hn18⟩ := nextStep_off_abort_path s.kind s.seqStep h17 h18
  rw [OffAbortPath, retire_params, retire_seqStep, retire_tstat]
  exact ⟨hhang, hn17, hn18, ht⟩

theorem offAbortPath_primStep {s : State} (p : Prim) (h : OffAbortPath s) : OffAbortPath (primStep p s) := by
  rcases primStep_cases p s with ⟨-, heq⟩ | ⟨-, hm⟩
  · rwa [heq]
  · cases hm with
    | requests _ _ _ heq => exact heq ▸ offAbortPath_of_sameRecord (request_sameRecord p s) h
    | refused _ _ heq =>
      exact heq ▸ offAbortPath_retire (offAbortPath_of_sameRecord (raiseFault_sameRecord .proto s) h)
    | passes _ heq => exact heq ▸ h
    | retires heq => exact heq ▸ offAbortPath_retire (offAbortPath_of_sameRecord (collect_sameRecord p s) h)

theorem offAbortPath_sequencerStep {s : State} (h : OffAbortPath s) : OffAbortPath (sequencerStep s) := by
  have ⟨hhang, h17, h18, ht⟩ := h
  rcases sequencerStep_cases s with ⟨-, heq⟩ | ⟨p, d, _, _, -, heq⟩ | ⟨n, hm, -, heq⟩ | ⟨n, -, -, habort, -⟩ |
    ⟨n, -, -, -, heq⟩ | ⟨-, heq⟩ | ⟨hm, -⟩
  · rwa [heq]
  · exact heq ▸ h
  · obtain ⟨hn17, hn18⟩ : n ≠ 17 ∧ n ≠ 18 := by
      simpa only [nextStep, hm] using nextStep_off_abort_path s.kind s.seqStep h17 h18
    exact heq ▸ ⟨hhang, hn17, hn18, ht⟩
  · simp [hhang] at habort
  · rwa [heq]
  · exact heq ▸ ⟨hhang, nofun, nofun, nofun⟩
  · exact absurd ((microprogram_eq_fail_iff _ _).1 hm) h18

theorem offAbortPath_agentStep {s : State} (a : Agent) (h : OffAbortPath s) : OffAbortPath (agentStep a s) := by
  cases a with
  | engine => exact offAbortPath_of_sameRecord (engineStep_sameRecord s) h
  | executor =>
    show OffAbortPath (executorStep s)
    rcases executorStep_cases s with ⟨p, -, heq⟩ | ⟨-, heq⟩
    · exact heq ▸ offAbortPath_primStep p h
    · exact heq ▸ offAbortPath_sequencerStep h

theorem offAbortPath_accept {s : State} (i : Instr) (h : OffAbortPath s) : OffAbortPath (accept i s) := by
  have htrans (k : Kind) : OffAbortPath (acceptTransaction k s) := by
    unfold acceptTransaction
    split_ifs
    · exact ⟨h.1, by simp, by simp, nofun⟩
    · exact h
  cases i with
  | readTemperature => exact htrans .temperature
  | readHumidity => exact htrans .humidity
  | _ => exact h

theorem keptByTurns_offAbortPath : KeptByTurns OffAbortPath where
  agent a _ h := offAbortPath_agentStep a h
  accept i _ _ h := offAbortPath_accept i h
  fault f s h := offAbortPath_of_sameRecord (raiseFault_sameRecord f s) h
  read _ _ h := h

/-! ## The raw sample in numbers (R152) -/

/-- The mask takes the low two bits off a byte. -/
theorem toNat_and_lsbMask (l : Byte) : (l &&& Config.lsbMask).toNat = l.toNat - l.toNat % 4 := by
  have hshift : l &&& Config.lsbMask = l >>> 2 <<< 2 := by
    ext i hi
    interval_cases i <;> simp [Config.lsbMask]
  rw [hshift]
  simp only [BitVec.toNat_shiftLeft, BitVec.toNat_ushiftRight, Nat.shiftLeft_eq, Nat.shiftRight_eq_div_pow]
  omega

theorem assembleRaw_eq_append (m l : Byte) : assembleRaw m l = m ++ (l &&& Config.lsbMask) := by
  rw [assembleRaw_eq, show (0xFFFC : Word) = BitVec.allOnes 8 ++ Config.lsbMask from rfl, BitVec.and_append,
    BitVec.and_allOnes]

theorem assembleRaw_toNat (m l : Byte) :
    (assembleRaw m l).toNat = 256 * m.toNat + (l.toNat - l.toNat % 4) := by
  rw [assembleRaw_eq_append, toNat_append_eq_add, toNat_and_lsbMask]
  omega

end Sys2Proof.Machine
end

section
/-!
The statements of 41_transaction_sequencer.md about single steps (R140, R143 to R148) and the raw sample (R152).
-/
namespace Sys2Proof.Proofs

open Sys2Proof.Machine Sys2Proof.Safety

/-- Settles O9: the write is the acceptance, which looks at `BUSPH`. -/
theorem transactionAcceptance : Obligations.TransactionAcceptance := by
  intro s k r hready hagenda
  have hstep : step s = .next (acceptTransaction k { s with agenda := r }) := by
    rw [step_cons hagenda, takeTurn, writeReg_encode (s := { s with agenda := r }) hready,
      accept_of_kindOf (kindOf_command k)]
  rw [hstep]
  refine ⟨fun hbus => ?_, fun hbus => ?_⟩
  · rw [acceptTransaction_free (s := { s with agenda := r }) k hbus]
  · rw [acceptTransaction_refused (s := { s with agenda := r }) k hbus]
    rfl

/-- Settles O14: each entry of the table that names a primitive is dispatched. -/
theorem microprogramDispatches : Obligations.MicroprogramDispatches := by
  intro s hop
  refine ⟨fun hq => ?_, fun hq => ?_, fun hq hk => ?_, fun hq hk => ?_, fun hq => ?_, fun hq => ?_, ?_, ?_,
    fun hq => ?_, ?_⟩
  · exact executorStep_of_prim hop (hq ▸ microprogram_1 _)
  · exact executorStep_of_prim hop (hq ▸ microprogram_2 _)
  · exact executorStep_of_prim hop ((hq ▸ microprogram_4 _).trans (by rw [hk]; rfl))
  · exact executorStep_of_prim hop ((hq ▸ microprogram_4 _).trans (by rw [hk]; rfl))
  · exact executorStep_of_prim hop (hq ▸ microprogram_6 _)
  · exact executorStep_of_prim hop (hq ▸ microprogram_7 _)
  · rintro (hq | hq | hq)
    · exact executorStep_of_prim hop (hq ▸ microprogram_9 _)
    · exact executorStep_of_prim hop (hq ▸ microprogram_11 _)
    · exact executorStep_of_prim hop (hq ▸ microprogram_13 _)
  · rintro (hq | hq)
    · exact executorStep_of_prim hop (hq ▸ microprogram_10 _)
    · exact executorStep_of_prim hop (hq ▸ microprogram_12 _)
  · exact executorStep_of_prim hop (hq ▸ microprogram_14 _)
  · rintro (hq | hq)
    · exact executorStep_of_prim hop (hq ▸ microprogram_15 _)
    · exact executorStep_of_prim hop (hq ▸ microprogram_17 _)

/-- Settles O15: the check by `ACKSTAT` and the policy, and the two entries that end a transaction. -/
theorem sequencerSingleSteps : Obligations.SequencerSingleSteps := by
  intro s hop
  refine ⟨fun k n hkn hq => ?_, fun hq => executorStep_of_done hop (hq ▸ microprogram_16 _),
    fun hq => executorStep_of_fail hop (hq ▸ microprogram_18 _)⟩
  rw [executorStep_of_chkAck hop ((microprogram_eq_chkAck_iff _ _ _).2 (hq ▸ hkn))]
  exact ⟨fun ha => checkAck_of_acknowledged ha n, fun ha hp => hq ▸ checkAck_of_abort ha hp n,
    fun ha hp => checkAck_of_hang ha hp n⟩

/-- Settles O35: only a refusal writes `PROTO`, and with the invariant the bus admits the microprogram's primitives. -/
theorem microprogramNeverRefused : Obligations.MicroprogramNeverRefused := by
  intro s a h hq
  cases a with
  | engine => exact engineStep_faultBit .proto s
  | executor =>
    show (executorStep s).proto = s.proto
    rcases executorStep_cases s with ⟨p, hop, heq⟩ | ⟨-, heq⟩
    · rw [heq, primStep_proto h.seq hq hop]
    · rw [heq, sequencerStep_proto]

/-- Settles O36: the abort path is entered by a failed check under `ABORT` alone, and `NOACK` is written at its end. -/
theorem hangNeverAborts : Obligations.HangNeverAborts := by
  intro s t hhang hoff ht
  obtain ⟨r, k, hpop⟩ := popTurn_form s
  have hpath : OffAbortPath s.popTurn := hpop ▸ ⟨hhang, hoff⟩
  exact keptByTurns_offAbortPath.takeTurn (fun _ => ⟨hpath.1, by simp, by simp, nofun⟩) hpath ht

/-- Settles O40: the masked byte is a multiple of 4, the same for all bytes with the same upper six bits. -/
theorem rawSampleAssembly : Obligations.RawSampleAssembly := by
  intro m l
  refine ⟨assembleRaw_toNat m l, assembleRaw_mask m l, fun l' hl => BitVec.eq_of_toNat_eq ?_⟩
  rw [assembleRaw_toNat, assembleRaw_toNat]
  omega

end Sys2Proof.Proofs
end

section
/-!
A transaction check by check (41_transaction_sequencer.md R145 to R151): where the microprogram stands at each of its
three acknowledge checks, for whatever the device answers, and what follows a check that fails or the last that passes.
-/
namespace Sys2Proof.Machine

open Sys2Proof.Safety

/-! ## The microprogram up to a check -/

/-- The state in which an accepted transaction begins (R140). -/
def transactionStart (k : Kind) (s : State) : State := { s with kind := k, tstat := .none, errstep := 0, seqStep := 1 }

theorem acceptTransaction_eq_start {s : State} (k : Kind) (h : s.busph = .free) :
    acceptTransaction k s = transactionStart k s := acceptTransaction_free k h

theorem atEntry_transactionStart {s : State} (k : Kind) (h : Idle s) (hbus : s.busph = .free) :
    AtEntry (transactionStart k s) := ⟨h.op, h.ph, h.busy, h.bf, fun _ => hbus⟩

/-- What a transaction has appended to `TRACE` at a check, where the device's answers before the last were 0 and the last
is `a`. -/
def checkEvents (k : Kind) (a : Bool) : FailedCheck → List BusEvent
  | .addressWrite => [.start, .wrote 0x80 a]
  | .command => [.start, .wrote 0x80 false, .wrote k.cmdByte a]
  | .addressRead => [.start, .wrote 0x80 false, .wrote k.cmdByte false, .restart, .wrote 0x81 a]

theorem checkEvents_true (k : Kind) (f : FailedCheck) : checkEvents k true f = f.events k := by cases f <;> rfl

/-- A transaction begun in `s` at a check: the writes before the last were acknowledged, and the device's answer to the
last was `a`. -/
def atCheck (k : Kind) (f : FailedCheck) (a : Bool) (s : State) : State :=
  { s with
    trace := s.trace ++ checkEvents k a f, acks := s.acks.drop f.answers.length, kind := k, tstat := .none,
    errstep := 0, ackstat := a, buf := f.lastByte k, opdata := f.lastByte k, busph := .owned, seqStep := f.errstep }

/-- The device's answer at a check, where it acknowledged the writes before (20_memory.md R68). -/
def checkAnswer (k : Kind) (s : State) : FailedCheck → Bool
  | .addressWrite => (emit .start s).nextAck 0x80
  | .command => (atCheck k .addressWrite false s).nextAck k.cmdByte
  | .addressRead => (emit .restart (atCheck k .command false s)).nextAck 0x81

theorem entries_to_addressWrite (k : Kind) (s : State) :
    entryStep^[2] (transactionStart k s) = atCheck k .addressWrite (checkAnswer k s .addressWrite) s := by
  simp [transactionStart, atCheck, checkAnswer, checkEvents, FailedCheck.answers, FailedCheck.lastByte,
    FailedCheck.errstep, entryStep, perform, collect, serve, doPost, emit, State.nextAck]

theorem entries_to_command (k : Kind) (s : State) :
    entryStep^[2] (atCheck k .addressWrite false s) = atCheck k .command (checkAnswer k s .command) s := by
  simp [atCheck, checkAnswer, checkEvents, FailedCheck.answers, FailedCheck.lastByte, FailedCheck.errstep, entryStep,
    perform, collect, serve, doPost, emit, State.nextAck, sequencerStep, checkAck, -List.drop_one]

theorem entries_to_addressRead (k : Kind) (s : State) :
    entryStep^[3] (atCheck k .command false s) = atCheck k .addressRead (checkAnswer k s .addressRead) s := by
  simp [atCheck, checkAnswer, checkEvents, FailedCheck.answers, FailedCheck.lastByte, FailedCheck.errstep, entryStep,
    perform, collect, serve, doPost, emit, State.nextAck, sequencerStep, checkAck]

/-- The checks a transaction has passed when it comes to a check. -/
def checksBefore : FailedCheck → List FailedCheck
  | .addressWrite => []
  | .command => [.addressWrite]
  | .addressRead => [.addressWrite, .command]

/-- How many entries of the microprogram a transaction has performed when it comes to a check. -/
def entriesBefore (f : FailedCheck) : Nat := f.errstep.val - 1

/-- A transaction comes to a check where the device acknowledged the writes before those it checks. -/
theorem entries_to_check {k : Kind} {s : State} {f : FailedCheck}
    (h : ∀ g ∈ checksBefore f, checkAnswer k s g = false) :
    entryStep^[entriesBefore f] (transactionStart k s) = atCheck k f (checkAnswer k s f) s := by
  have haddress := entries_to_addressWrite k s
  have hcommand (h1 : checkAnswer k s .addressWrite = false) :
      entryStep^[2 + 2] (transactionStart k s) = atCheck k .command (checkAnswer k s .command) s := by
    rw [Function.iterate_add_apply, haddress, h1, entries_to_command]
  cases f with
  | addressWrite => exact haddress
  | command => exact hcommand (h .addressWrite (by decide))
  | addressRead =>
    show entryStep^[3 + (2 + 2)] _ = _
    rw [Function.iterate_add_apply, hcommand (h .addressWrite (by decide)), h .command (by decide),
      entries_to_addressRead]

/-! ## The first check that fails -/

/-- The device first answers 1 at check `f`. -/
def FailsFirst (k : Kind) (f : FailedCheck) (s : State) : Prop :=
  checkAnswer k s f = true ∧ ∀ g ∈ checksBefore f, checkAnswer k s g = false

theorem failsFirst_or_acknowledged (k : Kind) (s : State) :
    (∃ f, FailsFirst k f s) ∨ ∀ f, checkAnswer k s f = false := by
  cases h1 : checkAnswer k s .addressWrite with
  | true => exact .inl ⟨.addressWrite, h1, by simp [checksBefore]⟩
  | false =>
    cases h2 : checkAnswer k s .command with
    | true => exact .inl ⟨.command, h2, by simp [checksBefore, h1]⟩
    | false =>
      cases h3 : checkAnswer k s .addressRead with
      | true => exact .inl ⟨.addressRead, h3, by simp [checksBefore, h1, h2]⟩
      | false => exact .inr fun f => by cases f <;> assumption

/-- A script that refuses the write at a check. -/
theorem failsFirst_of_script {k : Kind} {f : FailedCheck} {s : State} {as : List Bool}
    (hacks : s.acks = f.answers ++ as) : FailsFirst k f s := by
  cases f <;>
    simp_all [FailsFirst, checksBefore, FailedCheck.answers, checkAnswer, atCheck, emit, State.nextAck]

theorem entries_to_failed_check {k : Kind} {f : FailedCheck} {s : State} (h : FailsFirst k f s) :
    entryStep^[entriesBefore f] (transactionStart k s) = atCheck k f true s := by
  rw [entries_to_check h.2, h.1]

/-! ## After the checks -/

/-- Under `ABORT` a check that fails, the stop, and `FAIL` (R145, R146). -/
theorem entries_of_abort {k : Kind} (f : FailedCheck) {s : State} (hbus : s.busph = .free)
    (hnoack : s.params.noack = .abort) :
    entryStep^[3] (atCheck k f true s) =
      { s with
        trace := s.trace ++ f.events k ++ [.stop], acks := s.acks.drop f.answers.length, kind := k, tstat := .noack,
        errstep := f.errstep, ackstat := true, buf := f.lastByte k, opdata := 0, seqStep := 0 } := by
  cases f <;>
    simp [atCheck, checkEvents_true, FailedCheck.errstep, entryStep, perform, collect, serve, doPost, emit,
      sequencerStep, checkAck, abortDone, hbus, hnoack]

/-- `t` is the terminal state of a successful transaction begun in `s` (R151, last row), with whatever bytes the device
sent in `MSB`, `LSB` and `CHK`. -/
structure Succeeded (k : Kind) (s t : State) : Prop where
  seqStep : t.seqStep = 0
  busph : t.busph = .free
  kind : t.kind = k
  tstat : t.tstat = .ok
  errstep : t.errstep = 0
  trace : t.trace = s.trace ++ successEvents k t.msb t.lsb t.chk
  raw : t.raw = assembleRaw t.msb t.lsb
  result : t.result = decodeBits s.params.fmt k t.raw
  rxdata : t.rxdata = t.chk

/-- The last check passed, the three bytes read and answered, the stop, and `DONE` (R147). -/
theorem entries_of_acknowledged (k : Kind) (s : State) :
    Succeeded k s (entryStep^[9] (atCheck k .addressRead false s)) := by
  constructor <;>
    simp [atCheck, checkEvents, successEvents, FailedCheck.errstep, entryStep, perform, collect, serve, doPost, emit,
      sequencerStep, checkAck, complete]

/-! ## A transaction as a command -/

/-- A transaction issued on a free bus, where `n` entries of the microprogram bring it to `t`. -/
theorem exec_transaction_of_end {k : Kind} {s t : State} {n : Nat} (h : Idle s) (hbus : s.busph = .free)
    (hend : entryStep^[n] (transactionStart k s) = { t with seqStep := 0 }) (hq : t.seqStep = 0) :
    exec k.command s = .next t := by
  rw [exec_transaction_of_entries h (kindOf_command k) hbus n (congrArg State.seqStep hend)]
  refine congrArg _ (hend.trans ?_)
  rw [← hq]

theorem exec_of_failsFirst_abort {k : Kind} {f : FailedCheck} {s : State} (h : Idle s) (hbus : s.busph = .free)
    (hnoack : s.params.noack = .abort) (hf : FailsFirst k f s) :
    exec k.command s =
      .next { s with
        trace := s.trace ++ f.events k ++ [.stop], acks := s.acks.drop f.answers.length, kind := k, tstat := .noack,
        errstep := f.errstep, ackstat := true, buf := f.lastByte k, opdata := 0 } := by
  have hend := entries_of_abort (k := k) f hbus hnoack
  rw [← entries_to_failed_check hf, ← Function.iterate_add_apply] at hend
  exact exec_transaction_of_end h hbus hend h.seqStep

theorem exec_of_acknowledged {k : Kind} {s : State} (h : Idle s) (hbus : s.busph = .free)
    (hacked : ∀ f, checkAnswer k s f = false) : ∃ t, exec k.command s = .next t ∧ Idle t ∧ Succeeded k s t := by
  have hcheck := entries_to_check (f := .addressRead) fun g _ => hacked g
  rw [hacked] at hcheck
  have hend := entries_of_acknowledged k s
  rw [← hcheck, ← Function.iterate_add_apply] at hend
  obtain ⟨hop, hph, hbusy, hbf, -⟩ := (entryRun_iterate (atEntry_transactionStart k h hbus) _).1
  exact ⟨_, exec_transaction_of_entries h (kindOf_command k) hbus _ hend.seqStep,
    ⟨hop, hend.seqStep, hbusy, hbf, hph⟩, hend⟩

/-! ## The hang (R148) -/

theorem sequencerStep_of_hang (k : Kind) (f : FailedCheck) {s : State} (hnoack : s.params.noack = .hang) :
    sequencerStep (atCheck k f true s) = atCheck k f true s := by
  cases f <;> exact checkAck_of_hang (s := atCheck k _ true s) rfl hnoack _

theorem hung_of_stutters {s : State} (hready : s.ready = false) (hbusy : s.busy = false) (h : executorStep s = s) :
    Hung s :=
  ⟨hready, fun a => by cases a; exacts [h, (engineStep_eq_self_iff s).2 hbusy]⟩

/-- A hung state is where the block stays for the rest of its run. -/
theorem BlockRun.runToReady_of_hung {n m : Nat} {s t : State} (h : BlockRun n s t) (hn : n ≤ m) (ht : Hung t) :
    runToReady m s = t := by
  obtain ⟨a, ha⟩ := blockStep_agent t
  rw [← Nat.add_sub_of_le hn, h, runToReady_of_stutter (ha.trans (ht.2 a))]

theorem exec_of_failsFirst_hang {k : Kind} {f : FailedCheck} {s : State} (h : Idle s) (hbus : s.busph = .free)
    (hnoack : s.params.noack = .hang) (hf : FailsFirst k f s) :
    exec k.command s = .next (atCheck k f true s) ∧ Hung (atCheck k f true s) := by
  have hentries := entryRun_iterate (atEntry_transactionStart k h hbus) (entriesBefore f)
  rw [entries_to_failed_check hf] at hentries
  obtain ⟨hat, c, hrun, hc⟩ := hentries
  have hfuel : c ≤ commandFuel := (Nat.le_of_add_right_le hc).trans ((seqLeft_le _).trans (by decide))
  have hq : f.errstep ≠ 0 := by cases f <;> decide
  have hstutter : executorStep (atCheck k f true s) = atCheck k f true s :=
    (executorStep_of_none hat.op).trans (sequencerStep_of_hang k f hnoack)
  have hhung : Hung (atCheck k f true s) := hung_of_stutters (not_ready_of_seqStep hq) hat.busy hstutter
  rw [exec_of_ready _ (ready_of_idle h), accept_of_kindOf (kindOf_command k), acceptTransaction_eq_start k hbus,
    hrun.runToReady_of_hung hfuel hhung]
  exact ⟨rfl, hhung⟩

end Sys2Proof.Machine
end

section
/-!
The statements of 41_transaction_sequencer.md about transactions as commands (R141 to R151).
-/
namespace Sys2Proof.Proofs

open Sys2Proof.Machine Sys2Proof.Safety

/-- Settles O29: the sixteen entries of the success path. -/
theorem transactionSucceeds : Obligations.TransactionSucceeds := by
  intro s k m l c as bs h hbus hacks hbytes
  exact exec_transaction_of_end h hbus (entries_of_success h.bf hbus hacks hbytes) h.seqStep

/-- Settles O30: the entries up to the check that fails, and the abort path. -/
theorem missingAcknowledgeAborts : Obligations.MissingAcknowledgeAborts := by
  intro s k f as h hbus hnoack hacks
  rw [exec_of_failsFirst_abort h hbus hnoack (failsFirst_of_script hacks), hacks, List.drop_left]

/-- Settles O31: the entries up to the check that fails, where no agent has a step. -/
theorem missingAcknowledgeHangs : Obligations.MissingAcknowledgeHangs := by
  intro s k f as h hbus hnoack hacks
  obtain ⟨hexec, hhung⟩ := exec_of_failsFirst_hang h hbus hnoack (failsFirst_of_script hacks)
  exact ⟨_, hexec, hhung, rfl, rfl, rfl, congrArg (s.trace ++ ·) (checkEvents_true k f)⟩

/-- Settles O32: the device refuses one of the three writes first, or none. -/
theorem transactionEndsInOneOfTwoStates : Obligations.TransactionEndsInOneOfTwoStates := by
  intro s k h hbus hnoack
  rcases failsFirst_or_acknowledged k s with ⟨f, hf⟩ | hacked
  · exact ⟨_, exec_of_failsFirst_abort h hbus hnoack hf, ⟨h.op, h.seqStep, h.busy, h.bf, h.ph⟩, hbus, rfl,
      .inr ⟨f, rfl, rfl, rfl, rfl, rfl, rfl, rfl, rfl, rfl⟩⟩
  · obtain ⟨t, hexec, hidle, hs⟩ := exec_of_acknowledged h hbus hacked
    exact ⟨t, hexec, hidle, hs.busph, hs.kind,
      .inl ⟨hs.tstat, hs.errstep, hs.trace, hs.raw, hs.result, hs.rxdata⟩⟩

end Sys2Proof.Proofs
end

section
/-!
Floating-point rounding to nearest (42_decode.md R171), over the rationals: one rounded operation answers a number of the
format, and no other number of the format is closer to the exact result.
-/
namespace Sys2Proof.Machine

/-! ## Values as rationals -/

/-- The sign of a value. -/
def signOf (neg : Bool) : Rat := if neg then -1 else 1

@[simp] theorem signOf_true : signOf true = -1 := rfl
@[simp] theorem signOf_false : signOf false = 1 := rfl

theorem signOf_bne (a b : Bool) : signOf (a != b) = signOf a * signOf b := by cases a <;> cases b <;> simp

theorem pow2_div_pow2_neg (e : Int) : (pow2 e : Rat) / pow2 (-e) = 2 ^ e := by
  rcases Int.eq_nat_or_neg e with ⟨n, rfl | rfl⟩ <;> simp [pow2]

theorem pow2_pos (e : Int) : 0 < pow2 e := Nat.two_pow_pos _

theorem numOf_div_denOf (sig : Nat) (e : Int) : (numOf sig e : Rat) / denOf e = sig * 2 ^ e := by
  rw [numOf, denOf, Nat.cast_mul, mul_div_assoc, pow2_div_pow2_neg]

theorem denOf_pos (e : Int) : 0 < denOf e := pow2_pos _

theorem valueOf_fin (neg : Bool) (sig : Nat) (e : Int) :
    valueOf (.fin neg sig e) = some (signOf neg * (sig * 2 ^ e)) := by
  rw [← numOf_div_denOf, ← mul_div_assoc]; rfl

/-- A value that stands for a rational is a finite one. -/
theorem eq_fin_of_valueOf {v : FloatVal} {x : Rat} (h : valueOf v = some x) :
    ∃ neg sig e, v = .fin neg sig e ∧ x = signOf neg * ((numOf sig e : Rat) / denOf e) := by
  cases v with
  | fin neg sig e => exact ⟨neg, sig, e, rfl, by rw [← Option.some.inj h, mul_div_assoc]; rfl⟩
  | inf neg => cases h
  | nan => cases h

/-! ## Rounding a quotient -/

/-- `leadExp` is the exponent of the quotient's binade. -/
theorem two_zpow_leadExp_le {num den : Nat} (hnum : num ≠ 0) (hden : den ≠ 0) :
    (2 : Rat) ^ leadExp num den ≤ num / den ∧ (num / den : Rat) < 2 ^ (leadExp num den + 1) := by
  have hd : (0 : Rat) < den := by exact_mod_cast Nat.pos_of_ne_zero hden
  have hnlo : (2 : Rat) ^ Nat.log2 num ≤ num := by exact_mod_cast Nat.log2_self_le hnum
  have hnhi : (num : Rat) < 2 ^ (Nat.log2 num + 1) := by exact_mod_cast Nat.lt_log2_self
  have hdlo : (2 : Rat) ^ Nat.log2 den ≤ den := by exact_mod_cast Nat.log2_self_le hden
  have hdhi : (den : Rat) < 2 ^ (Nat.log2 den + 1) := by exact_mod_cast Nat.lt_log2_self
  have hlo : (2 : Rat) ^ ((Nat.log2 num : Int) - Nat.log2 den - 1) ≤ num / den := by
    rw [le_div_iff₀ hd, sub_sub, zpow_sub₀ two_ne_zero, div_mul_eq_mul_div, div_le_iff₀ (by positivity)]
    exact_mod_cast mul_le_mul hnlo hdhi.le hd.le (by positivity)
  have hhi : (num / den : Rat) < 2 ^ ((Nat.log2 num : Int) - Nat.log2 den + 1) := by
    rw [div_lt_iff₀ hd, sub_add_eq_add_sub, zpow_sub₀ two_ne_zero, div_mul_eq_mul_div, lt_div_iff₀ (by positivity)]
    exact_mod_cast mul_lt_mul hnhi hdlo (by positivity) (by positivity)
  have hcompare (k : Int) : den * pow2 k ≤ num * pow2 (-k) ↔ (2 : Rat) ^ k ≤ num / den := by
    have hk : (0 : Rat) < pow2 (-k) := by exact_mod_cast pow2_pos _
    rw [← pow2_div_pow2_neg, div_le_div_iff₀ hk hd, mul_comm den]
    exact_mod_cast Iff.rfl
  rw [leadExp]
  split
  case isTrue h => exact ⟨(hcompare _).1 h, hhi⟩
  case isFalse h => exact ⟨hlo, by rw [sub_add_cancel]; exact not_le.1 (mt (hcompare _).2 h)⟩

/-- The rule rounds to the nearest value; which way a tie goes is open. -/
def ToNearest (r : Rounding) : Prop := r = .nearestEven ∨ r = .nearestAway

theorem toNearest_nearestRule (r : Rounding) : ToNearest (nearestRule r) := by
  cases r <;> simp [ToNearest, nearestRule]

/-- The integer that `num / den` rounds to. -/
def roundedQuot (r : Rounding) (neg : Bool) (num den : Nat) : Nat :=
  if roundsUp r neg (num / den) (num % den) den then num / den + 1 else num / den

theorem abs_roundedQuot_sub_le {r : Rounding} (hr : ToNearest r) (neg : Bool) (num : Nat) {den : Nat} (hden : 0 < den) :
    |(roundedQuot r neg num den : Rat) - num / den| ≤ 1 / 2 := by
  have hd : (0 : Rat) < den := by exact_mod_cast hden
  have hsplit : den * (num / den) + num % den = num := Nat.div_add_mod num den
  have hrem : num % den < den := Nat.mod_lt num hden
  have hbound : 2 * (den * roundedQuot r neg num den) ≤ 2 * num + den ∧
      2 * num ≤ 2 * (den * roundedQuot r neg num den) + den := by
    have hup (h : 2 * (num % den) ≥ den) : 2 * (den * (num / den + 1)) ≤ 2 * num + den ∧
        2 * num ≤ 2 * (den * (num / den + 1)) + den := by rw [Nat.mul_add]; omega
    have hdown (h : 2 * (num % den) ≤ den) : 2 * (den * (num / den)) ≤ 2 * num + den ∧
        2 * num ≤ 2 * (den * (num / den)) + den := by omega
    rw [roundedQuot]
    rcases hr with rfl | rfl <;> split
    case inl.isTrue h => exact hup (by simp [roundsUp] at h; omega)
    case inl.isFalse h => exact hdown (by simp [roundsUp] at h; omega)
    case inr.isTrue h => exact hup (by simpa [roundsUp] using h)
    case inr.isFalse h => exact hdown (by simp [roundsUp] at h; omega)
  obtain ⟨hhi, hlo⟩ := hbound
  have hhi' : 2 * ((den : Rat) * roundedQuot r neg num den) ≤ 2 * num + den := by exact_mod_cast hhi
  have hlo' : (2 : Rat) * num ≤ 2 * (den * roundedQuot r neg num den) + den := by exact_mod_cast hlo
  rw [sub_div' hd.ne', abs_div, abs_of_pos hd, div_le_iff₀ hd, abs_le]
  constructor <;> linarith

/-- No integer is closer to a number than one at most a half away. -/
theorem abs_sub_le_of_half {i : Int} {x : Rat} (h : |i - x| ≤ 1 / 2) (m : Int) : |i - x| ≤ |m - x| := by
  rcases eq_or_ne m i with rfl | hne
  · rfl
  · have hone : (1 : Rat) ≤ |(m : Rat) - i| := by exact_mod_cast Int.one_le_abs (sub_ne_zero.2 hne)
    have htri := abs_sub_le (m : Rat) x i
    rw [abs_sub_comm x] at htri
    linarith

/-! ## Rounding to nearest -/

/-- A number that a format has, its largest exponent aside: a significand of the format's width, above the format's
smallest step. -/
def Representable (f : FloatFmt) (y : Rat) : Prop :=
  ∃ m e : Int, y = m * 2 ^ e ∧ |m| ≤ 2 ^ (f.fracBits + 1) ∧ eminOf f - f.fracBits ≤ e

/-- `v` stands for a number of the format, and none is closer to `x` (42_decode.md R171). -/
def Nearest (f : FloatFmt) (x : Rat) (v : FloatVal) : Prop :=
  ∃ y, valueOf v = some y ∧ Representable f y ∧ ∀ z, Representable f z → |y - x| ≤ |z - x|

theorem Representable.neg {f : FloatFmt} {y : Rat} (h : Representable f y) : Representable f (-y) := by
  obtain ⟨m, e, rfl, hm, he⟩ := h
  exact ⟨-m, e, by push_cast; ring, by rwa [abs_neg], he⟩

theorem Representable.signOf_mul {f : FloatFmt} {y : Rat} (h : Representable f y) (neg : Bool) :
    Representable f (signOf neg * y) := by
  cases neg
  · simpa using h
  · simpa using h.neg

theorem Nearest.signOf_mul {f : FloatFmt} {x : Rat} {sig : Nat} {e : Int} (h : Nearest f x (.fin false sig e))
    (neg : Bool) : Nearest f (signOf neg * x) (.fin neg sig e) := by
  obtain ⟨y, hy, hrep, hbest⟩ := h
  have hy' : y = sig * 2 ^ e := by simpa [valueOf_fin] using hy.symm
  refine ⟨signOf neg * y, by rw [valueOf_fin, hy'], hrep.signOf_mul neg, fun z hz => ?_⟩
  cases neg with
  | false => simpa using hbest z hz
  | true =>
    have := hbest (-z) hz.neg
    rw [signOf_true, neg_one_mul, neg_one_mul, neg_sub_neg, abs_sub_comm, sub_neg_eq_add]
    rwa [neg_sub_left, abs_neg, add_comm] at this

/-- The exponent of the last place of a quotient rounded to the format. -/
def lastPlace (f : FloatFmt) (num den : Nat) : Int := max (leadExp num den) (eminOf f) - f.fracBits

/-- The significand of a quotient rounded to the format. -/
def roundedSig (f : FloatFmt) (neg : Bool) (num den : Nat) : Nat :=
  roundedQuot f.rounding neg (num * pow2 (-lastPlace f num den)) (den * pow2 (lastPlace f num den))

theorem roundRat_of_ne_zero (f : FloatFmt) (neg : Bool) {num : Nat} (den : Nat) (h : num ≠ 0) :
    roundRat f neg num den =
      if (Nat.log2 (roundedSig f neg num den) : Int) + lastPlace f num den > emaxOf f then overflowVal f neg
      else .fin neg (roundedSig f neg num den) (lastPlace f num den) := by
  rw [roundRat, if_neg h]; rfl

/-- The significand is within a half of the quotient, counted in last places. -/
theorem abs_roundedSig_sub_le {f : FloatFmt} (hr : ToNearest f.rounding) (neg : Bool) (num : Nat) {den : Nat}
    (hden : 0 < den) : |(roundedSig f neg num den : Rat) - num / den / 2 ^ lastPlace f num den| ≤ 1 / 2 := by
  have hcount : (num : Rat) / den / 2 ^ lastPlace f num den =
      (num * pow2 (-lastPlace f num den) : Nat) / (den * pow2 (lastPlace f num den) : Nat) := by
    rw [← pow2_div_pow2_neg]
    push_cast
    field_simp
  rw [hcount]
  exact abs_roundedQuot_sub_le hr neg _ (Nat.mul_pos hden (pow2_pos _))

/-- A number of the format is a whole count of last places, or below the quotient's binade. -/
theorem Representable.grid_or_small {f : FloatFmt} {z : Rat} (h : Representable f z) (num den : Nat) :
    (∃ m : Int, z = m * 2 ^ lastPlace f num den) ∨
      (eminOf f ≤ leadExp num den ∧ z ≤ 2 ^ leadExp num den) := by
  obtain ⟨m, e, rfl, hm, he⟩ := h
  rcases le_or_gt (lastPlace f num den) e with hle | hlt
  · obtain ⟨n, rfl⟩ := Int.le.dest hle
    exact .inl ⟨m * 2 ^ n, by rw [zpow_add₀ two_ne_zero]; push_cast; rw [zpow_natCast]; ring⟩
  · rw [lastPlace] at hlt
    have hmRat : (m : Rat) ≤ 2 ^ (f.fracBits + 1) := by exact_mod_cast (le_abs_self m).trans hm
    refine .inr ⟨by omega, ?_⟩
    calc (m : Rat) * 2 ^ e ≤ 2 ^ (f.fracBits + 1) * 2 ^ e := by gcongr
      _ = 2 ^ ((f.fracBits + 1 : Int) + e) := by rw [zpow_add₀ two_ne_zero]; norm_cast
      _ ≤ 2 ^ leadExp num den := zpow_le_zpow_right₀ one_le_two (by omega)

/-- The significand has the format's width, or is the next power of two. -/
theorem roundedSig_le {f : FloatFmt} (hr : ToNearest f.rounding) (neg : Bool) {num den : Nat} (hnum : num ≠ 0)
    (hden : 0 < den) : roundedSig f neg num den ≤ 2 ^ (f.fracBits + 1) := by
  have hquot : (num : Rat) / den / 2 ^ lastPlace f num den ≤ 2 ^ (f.fracBits + 1) := by
    rw [div_le_iff₀ (by positivity), ← zpow_natCast, ← zpow_add₀ two_ne_zero]
    exact (two_zpow_leadExp_le hnum hden.ne').2.le.trans
      (zpow_le_zpow_right₀ one_le_two (by rw [lastPlace]; push_cast; omega))
  have hhalf := (abs_le.1 (abs_roundedSig_sub_le hr neg num hden)).2
  have hlt : (roundedSig f neg num den : Rat) < 2 ^ (f.fracBits + 1) + 1 := by linarith
  exact Nat.lt_succ_iff.1 (by exact_mod_cast hlt)

/-- The rounded magnitude is nearest. -/
theorem nearest_roundedSig {f : FloatFmt} (hr : ToNearest f.rounding) (neg : Bool) {num den : Nat} (hnum : num ≠ 0)
    (hden : 0 < den) : Nearest f (num / den) (.fin false (roundedSig f neg num den) (lastPlace f num den)) := by
  set q := lastPlace f num den with hq
  set x : Rat := num / den
  have hpos : (0 : Rat) < 2 ^ q := by positivity
  have hgrid (m : Int) : |(roundedSig f neg num den : Rat) * 2 ^ q - x| ≤ |m * 2 ^ q - x| := by
    have hbest := abs_sub_le_of_half (i := roundedSig f neg num den) (abs_roundedSig_sub_le hr neg num hden) m
    rwa [← mul_le_mul_iff_left₀ hpos, ← abs_of_pos hpos, ← abs_mul, ← abs_mul, abs_of_pos hpos, sub_mul, sub_mul,
      div_mul_cancel₀ _ hpos.ne'] at hbest
  refine ⟨_, valueOf_fin _ _ _, ?_⟩
  rw [signOf_false, one_mul]
  refine ⟨⟨roundedSig f neg num den, q, by simp, ?_, by rw [hq, lastPlace]; omega⟩, fun z hz => ?_⟩
  · rw [Nat.abs_cast]
    exact_mod_cast roundedSig_le hr neg hnum hden
  rcases hz.grid_or_small num den with ⟨m, rfl⟩ | ⟨hlead, hz⟩
  · exact hgrid m
  · have hx : (2 : Rat) ^ leadExp num den ≤ x := (two_zpow_leadExp_le hnum hden.ne').1
    have hbinade : ((2 ^ f.fracBits : Int) : Rat) * 2 ^ q = 2 ^ leadExp num den := by
      rw [hq, lastPlace, max_eq_left hlead, zpow_sub₀ two_ne_zero]
      push_cast
      rw [zpow_natCast]
      field_simp
    have := hgrid (2 ^ f.fracBits)
    rw [hbinade] at this
    refine this.trans ?_
    rw [abs_sub_comm, abs_sub_comm z, abs_of_nonneg (by linarith), abs_of_nonneg (by linarith)]
    linarith

/-- A quotient below the format's range does not overflow. -/
theorem log2_roundedSig_add_le {f : FloatFmt} (hr : ToNearest f.rounding) (hemax : 1 ≤ emaxOf f) (neg : Bool)
    {num den : Nat} (hnum : num ≠ 0) (hden : 0 < den) (hlt : (num / den : Rat) < 2 ^ emaxOf f) :
    (Nat.log2 (roundedSig f neg num den) : Int) + lastPlace f num den ≤ emaxOf f := by
  have hlead : leadExp num den < emaxOf f :=
    (zpow_lt_zpow_iff_right₀ one_lt_two).1 ((two_zpow_leadExp_le hnum hden.ne').1.trans_lt hlt)
  have hsig : roundedSig f neg num den < 2 ^ (f.fracBits + 2) :=
    (roundedSig_le hr neg hnum hden).trans_lt (Nat.pow_lt_pow_succ Nat.one_lt_two)
  have hlog : Nat.log2 (roundedSig f neg num den) < f.fracBits + 2 := by
    rcases eq_or_ne (roundedSig f neg num den) 0 with h0 | h0
    · simp [h0]
    · exact (Nat.log2_lt h0).2 hsig
  rw [lastPlace, eminOf]
  omega

/-- The formats the statements are about: rounding to nearest, and a range that holds 1. -/
structure NearestFormat (f : FloatFmt) : Prop where
  rounding : ToNearest f.rounding
  emax : 1 ≤ emaxOf f

theorem nearest_zero (f : FloatFmt) (neg : Bool) : Nearest f 0 (.fin neg 0 0) :=
  ⟨0, by simp [valueOf_fin], ⟨0, _, by simp, by simp, le_rfl⟩, fun z _ => by simp⟩

/-- `roundRat` rounds to nearest. -/
theorem nearest_roundRat {f : FloatFmt} (hf : NearestFormat f) (neg : Bool) {num den : Nat} (hden : 0 < den)
    (hlt : (num / den : Rat) < 2 ^ emaxOf f) : Nearest f (signOf neg * (num / den)) (roundRat f neg num den) := by
  rcases eq_or_ne num 0 with rfl | hnum
  · simpa [roundRat] using nearest_zero f neg
  · rw [roundRat_of_ne_zero f neg den hnum,
      if_neg (log2_roundedSig_add_le hf.rounding hf.emax neg hnum hden hlt).not_gt]
    exact (nearest_roundedSig hf.rounding neg hnum hden).signOf_mul neg

/-! ## The three operations -/

theorem abs_signOf_mul (neg : Bool) {x : Rat} (h : 0 ≤ x) : |signOf neg * x| = x := by
  cases neg <;> simp [abs_of_nonneg h]

/-- `roundRat` on a number given as a rational. -/
theorem nearest_roundRat_of_eq {f : FloatFmt} (hf : NearestFormat f) {neg : Bool} {num den : Nat} {x : Rat}
    (hden : 0 < den) (hx : x = signOf neg * (num / den)) (hlt : |x| < 2 ^ emaxOf f) :
    Nearest f x (roundRat f neg num den) := by
  subst hx
  rw [abs_signOf_mul _ (by positivity)] at hlt
  exact nearest_roundRat hf neg hden hlt

theorem nearest_fmul {f : FloatFmt} (hf : NearestFormat f) {v w : FloatVal} {x y : Rat} (hv : valueOf v = some x)
    (hw : valueOf w = some y) (hlt : |x * y| < 2 ^ emaxOf f) : Nearest f (x * y) (fmul f v w) := by
  obtain ⟨na, sa, ea, rfl, rfl⟩ := eq_fin_of_valueOf hv
  obtain ⟨nb, sb, eb, rfl, rfl⟩ := eq_fin_of_valueOf hw
  refine nearest_roundRat_of_eq hf (Nat.mul_pos (denOf_pos _) (denOf_pos _)) ?_ hlt
  rw [signOf_bne, Nat.cast_mul, Nat.cast_mul, mul_div_mul_comm, mul_mul_mul_comm]

theorem nearest_fdiv {f : FloatFmt} (hf : NearestFormat f) {v w : FloatVal} {x y : Rat} (hv : valueOf v = some x)
    (hw : valueOf w = some y) (hy : y ≠ 0) (hlt : |x / y| < 2 ^ emaxOf f) : Nearest f (x / y) (fdiv f v w) := by
  obtain ⟨na, sa, ea, rfl, rfl⟩ := eq_fin_of_valueOf hv
  obtain ⟨nb, sb, eb, rfl, rfl⟩ := eq_fin_of_valueOf hw
  have hsb : sb ≠ 0 := by rintro rfl; simp [numOf] at hy
  have hnum : 0 < numOf sb eb := Nat.mul_pos (Nat.pos_of_ne_zero hsb) (pow2_pos _)
  rw [fdiv, if_neg hsb]
  refine nearest_roundRat_of_eq hf (Nat.mul_pos (denOf_pos _) hnum) ?_ hlt
  rw [signOf_bne, Nat.cast_mul, Nat.cast_mul]
  cases nb <;> simp [div_eq_mul_inv] <;> ring

theorem nearest_fadd {f : FloatFmt} (hf : NearestFormat f) {v w : FloatVal} {x y : Rat} (hv : valueOf v = some x)
    (hw : valueOf w = some y) (hlt : |x + y| < 2 ^ emaxOf f) : Nearest f (x + y) (fadd f v w) := by
  obtain ⟨na, sa, ea, rfl, rfl⟩ := eq_fin_of_valueOf hv
  obtain ⟨nb, sb, eb, rfl, rfl⟩ := eq_fin_of_valueOf hw
  have hda : (denOf ea : Rat) ≠ 0 := by exact_mod_cast (denOf_pos ea).ne'
  have hdb : (denOf eb : Rat) ≠ 0 := by exact_mod_cast (denOf_pos eb).ne'
  have hd : 0 < denOf ea * denOf eb := Nat.mul_pos (denOf_pos _) (denOf_pos _)
  have hopposite (h : na ≠ nb) : signOf nb = -signOf na := by cases na <;> cases nb <;> simp at h ⊢
  rw [fadd]
  split_ifs with hsign heq hlt'
  · refine nearest_roundRat_of_eq hf hd ?_ hlt
    subst hsign
    push_cast
    field_simp
  · have heq' : (numOf sa ea : Rat) * denOf eb = numOf sb eb * denOf ea := by exact_mod_cast heq
    convert nearest_zero f _ using 1
    rw [hopposite hsign, (div_eq_div_iff hda hdb).2 heq', neg_mul, add_neg_cancel]
  · refine nearest_roundRat_of_eq hf hd ?_ hlt
    rw [hopposite hsign, Nat.cast_sub hlt'.le]
    push_cast
    field_simp
    ring
  · refine nearest_roundRat_of_eq hf hd ?_ hlt
    rw [← neg_neg (signOf na), ← hopposite hsign, Nat.cast_sub (not_lt.1 hlt')]
    push_cast
    field_simp
    ring

/-! ## What rounding to nearest gives -/

/-- A number of the format is not rounded. -/
theorem Nearest.exact {f : FloatFmt} {x : Rat} {v : FloatVal} (h : Nearest f x v) (hx : Representable f x) :
    valueOf v = some x := by
  obtain ⟨y, hy, -, hbest⟩ := h
  have := hbest x hx
  rw [sub_self, abs_zero, abs_nonpos_iff, sub_eq_zero] at this
  rwa [← this]

/-- A number below `2^(e + fracBits + 1)` has a number of the format within a half of `2^e`. -/
theorem exists_representable_near {f : FloatFmt} {x : Rat} {e : Int} (he : eminOf f - f.fracBits ≤ e)
    (hx : |x| ≤ 2 ^ (e + f.fracBits + 1)) : ∃ z, Representable f z ∧ |z - x| ≤ 2 ^ e / 2 := by
  have hpos : (0 : Rat) < 2 ^ e := by positivity
  have hround := abs_sub_round (x / 2 ^ e)
  refine ⟨round (x / 2 ^ e) * 2 ^ e, ⟨_, e, rfl, ?_, he⟩, ?_⟩
  · have hquot : |x / 2 ^ e| ≤ 2 ^ (f.fracBits + 1) := by
      rwa [abs_div, abs_of_pos hpos, div_le_iff₀ hpos, ← zpow_natCast, ← zpow_add₀ two_ne_zero, add_comm,
        Nat.cast_succ, ← add_assoc]
    have hlt : |(round (x / 2 ^ e) : Rat)| < 2 ^ (f.fracBits + 1) + 1 := by
      have := abs_sub_abs_le_abs_sub (round (x / 2 ^ e) : Rat) (x / 2 ^ e)
      rw [abs_sub_comm] at this
      linarith
    exact Int.lt_add_one_iff.1 (by exact_mod_cast hlt)
  · have hscale : x - round (x / 2 ^ e) * 2 ^ e = (x / 2 ^ e - round (x / 2 ^ e)) * 2 ^ e := by
      rw [sub_mul, div_mul_cancel₀ _ hpos.ne']
    rw [abs_sub_comm, hscale, abs_mul, abs_of_pos hpos]
    linarith [mul_le_mul_of_nonneg_right hround hpos.le]

/-- A rounded value is no further from the exact one than any number of the format is. -/
theorem Nearest.abs_sub_le {f : FloatFmt} {x y z : Rat} {v : FloatVal} (h : Nearest f x v) (hy : valueOf v = some y)
    (hz : Representable f z) : |y - x| ≤ |z - x| := by
  obtain ⟨y', hy', -, hbest⟩ := h
  obtain rfl : y' = y := Option.some.inj (hy'.symm.trans hy)
  exact hbest z hz

/-- The error of one rounded operation is at most a half in the last place. -/
theorem Nearest.abs_sub_le_half {f : FloatFmt} {x y : Rat} {v : FloatVal} (h : Nearest f x v) (hy : valueOf v = some y)
    (e : Int) (he : eminOf f - f.fracBits ≤ e) (hx : |x| ≤ 2 ^ (e + f.fracBits + 1)) : |y - x| ≤ 2 ^ e / 2 := by
  obtain ⟨z, hz, hnear⟩ := exists_representable_near he hx
  exact (h.abs_sub_le hy hz).trans hnear

/-- Above a power of two the numbers of the format are whole counts of a last place. -/
theorem Representable.eq_mul_of_lt {f : FloatFmt} {z : Rat} {e : Int} (h : Representable f z)
    (hlt : 2 ^ (e + f.fracBits) < z) : ∃ m : Int, z = m * 2 ^ e := by
  obtain ⟨m, e', rfl, hm, he⟩ := h
  have hmRat : (m : Rat) ≤ 2 ^ (f.fracBits + 1) := by exact_mod_cast (le_abs_self m).trans hm
  have hexp : e + f.fracBits < (f.fracBits + 1 : Nat) + e' := by
    rw [← zpow_lt_zpow_iff_right₀ (one_lt_two (α := Rat)), zpow_add₀ two_ne_zero _ e', zpow_natCast]
    exact hlt.trans_le (by gcongr)
  obtain ⟨n, rfl⟩ := Int.le.dest (show e ≤ e' by omega)
  exact ⟨m * 2 ^ n, by rw [zpow_add₀ two_ne_zero]; push_cast; rw [zpow_natCast]; ring⟩

end Sys2Proof.Machine
end

section
/-!
The decode of the raw sample as rounded operations (42_decode.md R172 to R178): which of them are exact in binary32 and
wider formats, and how far the binary64 temperature is from the exact one.
-/
namespace Sys2Proof.Machine

/-! ## The exact operations -/

/-- A format at least as wide as binary32, in significand and in range. -/
structure AtLeastBinary32 (f : FloatFmt) : Prop where
  fracBits : 23 ≤ f.fracBits
  emax : 127 ≤ emaxOf f

theorem atLeastBinary32_binary64 (r : Rounding) : AtLeastBinary32 { FloatFmt.binary64 with rounding := r } :=
  ⟨by norm_num [FloatFmt.binary64], by norm_num [emaxOf, FloatFmt.binary64]⟩

theorem atLeastBinary32_binary32 (r : Rounding) : AtLeastBinary32 { FloatFmt.binary32 with rounding := r } :=
  ⟨by norm_num [FloatFmt.binary32], by norm_num [emaxOf, FloatFmt.binary32]⟩

theorem AtLeastBinary32.nearestFormat {f : FloatFmt} (hf : AtLeastBinary32 f) (hr : ToNearest f.rounding) :
    NearestFormat f := ⟨hr, le_trans (by norm_num) hf.emax⟩

theorem AtLeastBinary32.representable {f : FloatFmt} (hf : AtLeastBinary32 f) {m e : Int} (hm : |m| ≤ 2 ^ 24)
    (he : -16 ≤ e) : Representable f (m * 2 ^ e) := by
  obtain ⟨hfrac, hemax⟩ := hf
  refine ⟨m, e, rfl, hm.trans (pow_le_pow_right₀ (by norm_num) (by omega)), ?_⟩
  rw [eminOf]
  omega

/-- 24 bits, down to a last place of `2^-16`, hold every intermediate of the humidity decode (R176). -/
theorem AtLeastBinary32.representable_div {f : FloatFmt} (hf : AtLeastBinary32 f) {m : Int} (hm : |m| ≤ 2 ^ 24) :
    Representable f (m / 65536) := by
  convert hf.representable hm (le_refl (-16)) using 1
  norm_num [div_eq_mul_inv]

theorem AtLeastBinary32.lt_two_zpow_emax {f : FloatFmt} (hf : AtLeastBinary32 f) {x : Rat} (hx : x < 2 ^ 127) :
    x < 2 ^ emaxOf f :=
  hx.trans_le (by rw [← zpow_natCast]; exact zpow_le_zpow_right₀ one_le_two hf.emax)

/-- A decimal constant is the nearest number of the format, whatever rule the operations round by (R171). -/
theorem nearest_constant {f : FloatFmt} (hf : AtLeastBinary32 f) (neg : Bool) {num den : Nat} (hden : 0 < den)
    (hlt : (num / den : Rat) < 2 ^ 127) : Nearest f (signOf neg * (num / den)) (constant f neg num den) :=
  nearest_roundRat (f := { f with rounding := nearestRule f.rounding })
    ⟨toNearest_nearestRule _, le_trans (by norm_num) hf.emax⟩ neg hden (hf.lt_two_zpow_emax hlt)

/-- An integer constant of at most 24 bits is exact (R172). -/
theorem valueOf_constant {f : FloatFmt} (hf : AtLeastBinary32 f) (neg : Bool) {n : Nat} (hn : n ≤ 2 ^ 24) :
    valueOf (constant f neg n 1) = some (signOf neg * n) := by
  have hnRat : (n : Rat) ≤ 2 ^ 24 := by exact_mod_cast hn
  have hnearest := nearest_constant hf neg (num := n) Nat.one_pos (by rw [Nat.cast_one, div_one]; linarith)
  have hrep : Representable f n := by
    simpa using hf.representable (m := n) (e := 0) (by rw [Nat.abs_cast]; exact_mod_cast hn) (by norm_num)
  rw [Nat.cast_one, div_one] at hnearest
  exact hnearest.exact (hrep.signOf_mul neg)

section
variable {f : FloatFmt} (hf : AtLeastBinary32 f) (hr : ToNearest f.rounding) (raw : Word)
include hf hr

/-- The conversion and the division are exact (R173). -/
theorem valueOf_ratio : valueOf (ratio f raw) = some ((raw.toNat : Rat) / 65536) := by
  have hn := hf.nearestFormat hr
  have hlt : raw.toNat < 65536 := raw.isLt
  have hraw : (raw.toNat : Rat) < 65536 := by exact_mod_cast hlt
  have hconvert : valueOf (roundRat f false raw.toNat 1) = some (raw.toNat : Rat) := by
    have hnearest := nearest_roundRat hn false (num := raw.toNat) Nat.one_pos
      (hf.lt_two_zpow_emax (by rw [Nat.cast_one, div_one]; linarith))
    rw [signOf_false, one_mul, Nat.cast_one, div_one] at hnearest
    refine hnearest.exact ?_
    simpa using hf.representable (m := raw.toNat) (e := 0) (by rw [Nat.abs_cast]; omega) (by norm_num)
  have hconst : valueOf (constant f false 65536 1) = some 65536 := by
    simpa using valueOf_constant hf false (n := 65536) (by norm_num)
  have hquot := nearest_fdiv hn hconvert hconst (by norm_num)
    (hf.lt_two_zpow_emax (by rw [abs_of_nonneg (by positivity)]; linarith))
  exact hquot.exact (by simpa using hf.representable_div (m := raw.toNat) (by rw [Nat.abs_cast]; omega))

/-- R176: no operation of the humidity decode rounds. -/
theorem valueOf_relativeHumidity : valueOf (relativeHumidity f raw) = some (humidityExact raw) := by
  have hn := hf.nearestFormat hr
  have hlt : raw.toNat < 65536 := raw.isLt
  have hraw : (raw.toNat : Rat) < 65536 := by exact_mod_cast hlt
  have hraw0 : (0 : Rat) ≤ raw.toNat := Nat.cast_nonneg _
  have h125 : valueOf (constant f false 125 1) = some 125 := by
    simpa using valueOf_constant hf false (n := 125) (by norm_num)
  have h6 : valueOf (constant f true 6 1) = some (-6) := by
    simpa using valueOf_constant hf true (n := 6) (by norm_num)
  have hproduct :
      valueOf (fmul f (constant f false 125 1) (ratio f raw)) = some (125 * ((raw.toNat : Rat) / 65536)) := by
    refine (nearest_fmul hn h125 (valueOf_ratio hf hr raw) (hf.lt_two_zpow_emax ?_)).exact ?_
    · rw [abs_of_nonneg (by positivity)]
      linarith
    · convert hf.representable_div (m := 125 * raw.toNat) (by rw [abs_le]; omega) using 1
      push_cast
      ring
  refine ((nearest_fadd hn h6 hproduct (hf.lt_two_zpow_emax ?_)).exact ?_).trans ?_
  · rw [abs_lt]
    constructor <;> linarith
  · convert hf.representable_div (m := 125 * raw.toNat - 6 * 65536) (by rw [abs_le]; omega) using 1
    push_cast
    ring
  · rw [humidityExact, mul_div_assoc]

end

/-! ## The binary64 temperature -/

theorem eminOf_binary64 : eminOf .binary64 = -1022 := by norm_num [eminOf, emaxOf, FloatFmt.binary64]

theorem nearestFormat_binary64 : NearestFormat .binary64 :=
  (atLeastBinary32_binary64 .nearestEven).nearestFormat (.inl rfl)

/-- One rounded operation in binary64: it answers a number of the format, and errs by at most a half of `2^e`, where the
exact result has no more than 53 places above `2^e`. -/
theorem exists_near_binary64 {x : Rat} {v : FloatVal} (h : |x| < 2 ^ emaxOf .binary64 → Nearest .binary64 x v) (e : Int)
    (he : -1074 ≤ e ∧ e ≤ 0) (hx : |x| ≤ 2 ^ (e + 53)) :
    ∃ y, valueOf v = some y ∧ Representable .binary64 y ∧ |y - x| ≤ 2 ^ e / 2 := by
  have hrange : |x| < 2 ^ emaxOf .binary64 :=
    hx.trans_lt (zpow_lt_zpow_right₀ one_lt_two (by norm_num [emaxOf, FloatFmt.binary64]; omega))
  have hnearest := h hrange
  have ⟨y, hy, hrep, _⟩ := hnearest
  refine ⟨y, hy, hrep, hnearest.abs_sub_le_half hy e ?_ ?_⟩
  · rw [eminOf_binary64, FloatFmt.binary64]
    push_cast
    omega
  · rwa [FloatFmt.binary64, Nat.cast_ofNat, add_assoc]

/-- The binary64 constant -46.85 (R172). -/
theorem valueOf_offset : valueOf (constant .binary64 true 4685 100) = some (-0x176CCCCCCCCCCD / 2 ^ 47) := by
  have hbits : constant .binary64 true 4685 100 = .fin true 0x176CCCCCCCCCCD (-47) := by decide +kernel
  rw [hbits, valueOf_fin]
  norm_num

/-- The binary64 constant 175.72 (R172). -/
theorem valueOf_slope : valueOf (constant .binary64 false 17572 100) = some (0x15F70A3D70A3D7 / 2 ^ 45) := by
  have hbits : constant .binary64 false 17572 100 = .fin false 0x15F70A3D70A3D7 (-45) := by decide +kernel
  rw [hbits, valueOf_fin]
  norm_num

/-- Adding -46.85 errs by at most `2^-47`. Above 128 that is half of what the last place allows: there the product is a
whole count of `2^-45`, and the constant is `2^-47` away from one. -/
theorem exists_representable_offset_add {t : Rat} (ht : Representable .binary64 t) (h0 : -1 ≤ t) (h176 : t ≤ 176) :
    ∃ z, Representable .binary64 z ∧ |z - (-0x176CCCCCCCCCCD / 2 ^ 47 + t)| ≤ 1 / 2 ^ 47 := by
  rcases le_or_gt (-0x176CCCCCCCCCCD / 2 ^ 47 + t) 128 with hle | hgt
  · obtain ⟨z, hz, hnear⟩ := exists_representable_near (f := .binary64)
      (x := -0x176CCCCCCCCCCD / 2 ^ 47 + t) (e := -46) (by rw [eminOf_binary64, FloatFmt.binary64]; norm_num)
      (by norm_num [FloatFmt.binary64]; rw [abs_le]; constructor <;> linarith)
    exact ⟨z, hz, hnear.trans (by norm_num)⟩
  · obtain ⟨m, rfl⟩ := ht.eq_mul_of_lt (e := -45) (by norm_num [FloatFmt.binary64]; linarith)
    refine ⟨(m - 0x5DB3333333333 : Int) * 2 ^ (-45 : Int), ⟨_, _, rfl, ?_, ?_⟩, ?_⟩
    · have hplace : (2 : Rat) ^ (-45 : Int) = 1 / 2 ^ 45 := by norm_num
      rw [hplace] at hgt h176
      have hlo : 0 ≤ m := by exact_mod_cast show (0 : Rat) ≤ m by linarith
      have hhi : m ≤ 2 ^ 53 := by exact_mod_cast show (m : Rat) ≤ 2 ^ 53 by linarith
      rw [abs_le, show FloatFmt.binary64.fracBits = 52 from rfl]
      omega
    · rw [eminOf_binary64, FloatFmt.binary64]
      norm_num
    · have hdiff : ((m - 0x5DB3333333333 : Int) : Rat) * 2 ^ (-45 : Int) -
          (-0x176CCCCCCCCCCD / 2 ^ 47 + m * 2 ^ (-45 : Int)) = 1 / 2 ^ 47 := by
        push_cast
        ring
      rw [hdiff, abs_of_pos (by norm_num)]

/-- The binary64 Celsius intermediate (R174): `2^-46` from the product, `2^-47` from the sum, and the errors of the two
constants. -/
theorem exists_celsius (raw : Word) :
    ∃ c, valueOf (celsius .binary64 raw) = some c ∧ |c - celsiusExact raw| ≤ 17 / 10 / 2 ^ 46 := by
  have hlt : raw.toNat < 65536 := raw.isLt
  have hraw : (raw.toNat : Rat) < 65536 := by exact_mod_cast hlt
  have hraw0 : (0 : Rat) ≤ raw.toNat := Nat.cast_nonneg _
  have hratio := valueOf_ratio (atLeastBinary32_binary64 .nearestEven) (.inl rfl) raw
  have hproduct : |0x15F70A3D70A3D7 / 2 ^ 45 * ((raw.toNat : Rat) / 65536)| ≤ 176 := by
    rw [abs_le]
    constructor <;> linarith
  obtain ⟨t, ht, hrep, hterr⟩ := exists_near_binary64 (nearest_fmul nearestFormat_binary64 valueOf_slope hratio) (-45)
    (by norm_num) (hproduct.trans (by norm_num))
  norm_num at hterr
  rw [abs_le] at hterr
  have hlow : -1 ≤ t := by linarith
  have hhigh : t ≤ 176 := by linarith
  obtain ⟨z, hz, hnear⟩ := exists_representable_offset_add hrep hlow hhigh
  have hsum : |-0x176CCCCCCCCCCD / 2 ^ 47 + t| ≤ 176 := by
    rw [abs_le]
    constructor <;> linarith
  obtain ⟨c, hc, -, hbest⟩ := nearest_fadd nearestFormat_binary64 valueOf_offset ht
    ((atLeastBinary32_binary64 .nearestEven).lt_two_zpow_emax (hsum.trans_lt (by norm_num)))
  have hcerr := (hbest z hz).trans hnear
  refine ⟨c, hc, ?_⟩
  rw [celsiusExact, abs_le]
  rw [abs_le] at hcerr
  constructor <;> linarith

/-- The Fahrenheit conversion of a Celsius value in the sensor's range (R175): `2^-43 / 5` from the product, `2^-46`
from the quotient and `2^-45` from the sum. -/
theorem exists_fahrenheit {raw : Word} {c : Rat} (hc : valueOf (celsius .binary64 raw) = some c) (hrange : |c| ≤ 129) :
    ∃ v, valueOf (fahrenheit .binary64 raw) = some v ∧ |v - (c * 9 / 5 + 32)| ≤ 46 / 10 / 2 ^ 46 := by
  have hconst (n : Nat) (hle : n ≤ 2 ^ 24) : valueOf (constant .binary64 false n 1) = some (n : Rat) := by
    rw [valueOf_constant (f := .binary64) (atLeastBinary32_binary64 .nearestEven) false hle, signOf_false, one_mul]
  have hmul : |c * (9 : Nat)| ≤ 1161 := by
    rw [abs_le] at *
    constructor <;> push_cast <;> linarith
  obtain ⟨f1, hf1, -, herr1⟩ := exists_near_binary64 (nearest_fmul nearestFormat_binary64 hc (hconst 9 (by norm_num)))
    (-42) (by norm_num) (hmul.trans (by norm_num))
  norm_num at herr1
  have hdiv : |f1 / (5 : Nat)| ≤ 233 := by
    rw [abs_le] at *
    constructor <;> push_cast <;> linarith
  obtain ⟨f2, hf2, -, herr2⟩ := exists_near_binary64
    (nearest_fdiv nearestFormat_binary64 hf1 (hconst 5 (by norm_num)) (by norm_num))
    (-45) (by norm_num) (hdiv.trans (by norm_num))
  norm_num at herr2
  have hadd : |f2 + (32 : Nat)| ≤ 266 := by
    rw [abs_le] at *
    constructor <;> push_cast <;> linarith
  obtain ⟨v, hv, -, herr3⟩ := exists_near_binary64
    (nearest_fadd nearestFormat_binary64 hf2 (hconst 32 (by norm_num)))
    (-44) (by norm_num) (hadd.trans (by norm_num))
  norm_num at herr3
  refine ⟨v, hv, ?_⟩
  rw [abs_le] at *
  constructor <;> linarith

/-- The Celsius error grows by 9/5 and the conversion's own is added: less than `2^-43` together (R177, R178). -/
theorem exists_fahrenheit_near_exact (raw : Word) :
    ∃ v, valueOf (fahrenheit .binary64 raw) = some v ∧ |v - fahrenheitExact raw| ≤ 1 / 2 ^ 43 := by
  have hlt : raw.toNat < 65536 := raw.isLt
  have hraw : (raw.toNat : Rat) < 65536 := by exact_mod_cast hlt
  have hraw0 : (0 : Rat) ≤ raw.toNat := Nat.cast_nonneg _
  obtain ⟨c, hc, hcerr⟩ := exists_celsius raw
  have hexact : |celsiusExact raw| ≤ 12887 / 100 := by
    rw [celsiusExact, abs_le]
    constructor <;> linarith
  have hrange : |c| ≤ 129 := by
    rw [abs_le] at hexact hcerr ⊢
    constructor <;> linarith
  obtain ⟨v, hv, hverr⟩ := exists_fahrenheit hc hrange
  refine ⟨v, hv, ?_⟩
  rw [fahrenheitExact]
  rw [abs_le] at hcerr hverr ⊢
  constructor <;> linarith

end Sys2Proof.Machine
end

section
/-!
The sample of a transaction that succeeds, by the bytes it read (42_decode.md R170, 60_exceptions.md R186).
-/
namespace Sys2Proof.Machine

open Sys2Proof.Safety

/-- The entries after the last check copy the first two bytes read to `MSB` and `LSB` (R143, R144). -/
theorem entries_of_acknowledged_bytes {k : Kind} {s : State} {m l c : Byte} {bs : List Byte}
    (hbytes : s.bytes = m :: l :: c :: bs) :
    (entryStep^[9] (atCheck k .addressRead false s)).msb = m ∧
      (entryStep^[9] (atCheck k .addressRead false s)).lsb = l := by
  constructor <;>
    simp [atCheck, FailedCheck.errstep, entryStep, perform, collect, serve, doPost, emit, sequencerStep, checkAck,
      complete, State.nextByte, hbytes]

theorem exec_eq_of_acknowledged {k : Kind} {s : State} (h : Idle s) (hbus : s.busph = .free)
    (hacked : ∀ f, checkAnswer k s f = false) :
    exec k.command s = .next (entryStep^[9] (atCheck k .addressRead false s)) := by
  have hcheck := entries_to_check (f := .addressRead) fun g _ => hacked g
  have hend := (entries_of_acknowledged k s).seqStep
  rw [hacked] at hcheck
  rw [← hcheck, ← Function.iterate_add_apply] at hend ⊢
  exact exec_transaction_of_entries h (kindOf_command k) hbus _ hend

/-- A transaction whose check fails does not end with `TSTAT` 1 (R146, R148). -/
theorem tstat_ne_ok_of_failsFirst {k : Kind} {f : FailedCheck} {s t : State} (h : Idle s) (hbus : s.busph = .free)
    (hf : FailsFirst k f s) (hexec : exec k.command s = .next t) : t.tstat ≠ .ok := by
  cases hnoack : s.params.noack with
  | abort =>
    cases (exec_of_failsFirst_abort h hbus hnoack hf).symm.trans hexec
    exact nofun
  | hang =>
    cases (exec_of_failsFirst_hang h hbus hnoack hf).1.symm.trans hexec
    exact nofun

/-- What a successful transaction leaves in `RAW` and `RESULT`: a function of the format, the kind and the first two
bytes. -/
theorem sample_of_exec_ok {k : Kind} {s t : State} {m l c : Byte} {bs : List Byte} (h : Idle s)
    (hbus : s.busph = .free) (hbytes : s.bytes = m :: l :: c :: bs) (hexec : exec k.command s = .next t)
    (hok : t.tstat = .ok) :
    t.raw = assembleRaw m l ∧ t.result = decodeBits s.params.fmt k (assembleRaw m l) := by
  rcases failsFirst_or_acknowledged k s with ⟨f, hf⟩ | hacked
  · exact absurd hok (tstat_ne_ok_of_failsFirst h hbus hf hexec)
  · obtain rfl := Host.Outcome.next.inj ((exec_eq_of_acknowledged h hbus hacked).symm.trans hexec)
    obtain ⟨hmsb, hlsb⟩ := entries_of_acknowledged_bytes (k := k) hbytes
    have hs := entries_of_acknowledged k s
    have hraw := hs.raw
    rw [hmsb, hlsb] at hraw
    exact ⟨hraw, hraw ▸ hs.result⟩

end Sys2Proof.Machine
end

section
/-!
The statements of 42_decode.md.
-/
namespace Sys2Proof.Proofs

open Sys2Proof.Machine Sys2Proof.Safety

/-- Settles O34: each sample is the same function of the format, the kind and the two bytes. -/
theorem resultIgnoresChecksumAndHistory : Obligations.ResultIgnoresChecksumAndHistory := by
  intro s s' t t' k m l c c' bs bs' h h' hfmt hbytes hbytes' hexec hexec' hbus hbus' hok hok'
  obtain ⟨hraw, hresult⟩ := sample_of_exec_ok h hbus hbytes hexec hok
  obtain ⟨hraw', hresult'⟩ := sample_of_exec_ok h' hbus' hbytes' hexec' hok'
  exact ⟨hraw.trans hraw'.symm, by rw [hresult, hresult', hfmt]⟩

/-- Settles O42: the exactness of the humidity decode, in the two formats. -/
theorem humidityIsExact : Obligations.HumidityIsExact := fun raw =>
  ⟨valueOf_relativeHumidity (atLeastBinary32_binary64 .nearestEven) (.inl rfl) raw,
    valueOf_relativeHumidity (atLeastBinary32_binary32 .nearestEven) (.inl rfl) raw⟩

/-- Settles O43: the errors of the five rounded operations add up to less than `2^-43`. -/
theorem temperatureIsCloseToExact : Obligations.TemperatureIsCloseToExact := exists_fahrenheit_near_exact

/-- Settles O41, by running the decode. -/
theorem decodeReferenceValues : Obligations.DecodeReferenceValues := by
  unfold Obligations.DecodeReferenceValues
  decide +kernel

/-- Settles O60: the patterns by conversion under each rule, the integers as numbers of 24 bits. -/
theorem constantsAreNearest : Obligations.ConstantsAreNearest := by
  intro r
  refine ⟨by cases r <;> decide +kernel, fun f hf c hc => ?_⟩
  have hwide : AtLeastBinary32 f := by
    rcases List.mem_pair.1 hf with rfl | rfl
    · exact atLeastBinary32_binary64 r
    · exact atLeastBinary32_binary32 r
  have hsmall : ∀ c ∈ [(false, 65536), (false, 9), (false, 5), (false, 32), (true, 6), (false, 125)], c.2 ≤ 2 ^ 24 := by
    decide
  rw [valueOf_constant hwide c.1 (hsmall c hc), signOf, ite_mul, neg_one_mul, one_mul]

end Sys2Proof.Proofs
end

section
/-!
The words that are turned away at `CMD` (30_encoding.md R81): the write while busy, and the illegal word while ready.
-/
namespace Sys2Proof.Machine

theorem writeReg_of_busy {s : State} (w : Word) (hbusy : s.ready = false) : writeReg 0 w s = raiseFault .ovr s := by
  rw [writeReg, if_pos rfl, writeCmd, if_neg (Bool.eq_false_iff.1 hbusy)]

theorem writeReg_of_decode_error {s : State} {w : Word} {e : DecodeError} (hready : s.ready = true)
    (hdecode : decode w = .error e) : writeReg 0 w s = raiseFault .illcmd s := by
  rw [writeReg, if_pos rfl, writeCmd, if_pos hready, hdecode]

theorem issueIllegal_of_ready {s : State} (hready : s.ready = true) : issueIllegal s = raiseFault .illcmd s := by
  rw [issueIllegal, if_pos hready]

/-- At `READY = 1` the program line with an illegal word is the write of it: there is nothing to wait for or to run. -/
theorem takeTurn_issue_illegal_of_ready {s : State} {w : Word} {e : DecodeError} (hready : s.ready = true)
    (hdecode : decode w = .error e) :
    takeTurn (.host (.issue w)) s = .next (raiseFault .illcmd s) := by
  rw [takeTurn_issue_illegal hdecode, afterReady_of_ready _ hready, issueIllegal_of_ready hready]

end Sys2Proof.Machine
end

section
/-!
The statements of 60_exceptions.md about the words that are turned away at `CMD` (R182, R183).
-/
namespace Sys2Proof.Proofs

open Sys2Proof.Machine

/-- Settles O6: while busy the write is the fault bit `OVR`, whatever the word. -/
theorem overrunSetsOvrAlone : Obligations.OverrunSetsOvrAlone := by
  intro s w r hbusy hagenda
  rw [step_cons hagenda, takeTurn, writeReg_of_busy (s := { s with agenda := r }) w hbusy]
  rfl

/-- Settles O7: a word that is not legal does not decode, so both the write and the program line set `ILLCMD`. -/
theorem illegalWordSetsIllcmdAlone : Obligations.IllegalWordSetsIllcmdAlone := by
  intro s w r hready hillegal hagenda
  obtain ⟨e, hdecode⟩ := (exists_decode_error_iff w).2 hillegal
  have hready : ({ s with agenda := r } : State).ready = true := hready
  rcases hagenda with hwrite | hissue
  · rw [step_cons hwrite, takeTurn, writeReg_of_decode_error hready hdecode]
    rfl
  · rw [step_cons hissue, takeTurn_issue_illegal_of_ready hready hdecode]
    rfl

end Sys2Proof.Proofs
end

section
/-!
Reset (70_reset_and_hazards.md R210) and the recovery program after it (R211).
-/
namespace Sys2Proof.Machine

open Sys2Proof.Safety

/-- What the Host reads after a reset is what it reads at power-up: no register shows what reset keeps. -/
@[simp] theorem readReg_resetBlock (n : Nat) (s : State) : readReg n (resetBlock s) = readReg n State.reset := rfl

/-- `TRACE` is no register of R40. -/
@[simp] theorem readReg_withTrace (n : Nat) (s : State) (tr : List BusEvent) :
    readReg n { s with trace := tr } = readReg n s := rfl

theorem idle_resetBlock (s : State) : Idle (resetBlock s) := ⟨rfl, rfl, rfl, rfl, rfl⟩

/-- The recovery program leaves the block as the reset did, but for the two events it puts on the bus. -/
theorem performAll_start_stop_resetBlock (s : State) :
    performAll [.start, .stop] (resetBlock s) = { resetBlock s with trace := s.trace ++ [.start, .stop] } := by
  simp [performAll, primOf, perform, collect, serve, emit, resetBlock, State.reset, Instr.data]

end Sys2Proof.Machine
end

section
/-!
The statements of 70_reset_and_hazards.md (R210, R211).
-/
namespace Sys2Proof.Proofs

open Sys2Proof.Machine Sys2Proof.Safety

/-- Settles O47: the turn is `resetBlock`, after which the Host reads the values of R44, those of O46. -/
theorem resetAtAnyTime : Obligations.ResetAtAnyTime := by
  intro s r hagenda
  obtain ⟨hstatus, hothers, -⟩ := resetValues
  have hidle := idle_resetBlock { s with agenda := r }
  exact ⟨_, step_cons hagenda, hidle, ready_of_idle hidle, rfl, rfl, hstatus, hothers, rfl⟩

/-- Settles O48: reset leaves the bus free, which admits `START`, and the owned bus that follows admits `STOP`. -/
theorem recoveryAfterReset : Obligations.RecoveryAfterReset := by
  intro s
  obtain ⟨-, hothers, -⟩ := resetValues
  have hrun := runProgram_of_admitted (l := [.start, .stop]) (idle_resetBlock s) rfl
  rw [performAll_start_stop_resetBlock] at hrun
  have hfault : readReg 3 { resetBlock s with trace := s.trace ++ [.start, .stop] } = 0 := by
    rw [readReg_withTrace, readReg_resetBlock, hothers 3 (by decide)]
  exact ⟨_, hrun, rfl, rfl, hfault, rfl⟩

end Sys2Proof.Proofs
end
